-- ==== Sys2Proof/Word.lean ====
section
/-! DEFINITION. The two widths of the core (00_scope.md R7, R9): a byte is 8 bits, a word 16. -/

namespace Sys2Proof

/-- A register cell, a memory cell or an opcode byte (R7). -/
abbrev Byte := BitVec 8

/-- A 16-bit counter, pair or address (R7). -/
abbrev Word := BitVec 16

end Sys2Proof
end

