-- ==== Sys2Proof/Machine/Bits.lean ====
section
/-! DEFINITION. Byte order and sign extension (00_scope.md R9, R10; 20_memory.md R55). -/

namespace Sys2Proof

/-- `{hi, lo}`: the word of a high and a low byte (R9). -/
def makeWord (hi lo : Byte) : Word := hi ++ lo

/-- `w[15:8]`. -/
def hiByte (w : Word) : Byte := w.extractLsb' 8 8

/-- `w[7:0]`. -/
def loByte (w : Word) : Byte := w.extractLsb' 0 8

/-- `s8(e)`, the signed value of a byte: `e` when `e < 128`, `e - 256` otherwise (R10). -/
def s8 (e : Byte) : Int := if e.toNat < 128 then (e.toNat : Int) else (e.toNat : Int) - 256

/-- `trunc16(w + s8(e))`: a word displaced by a signed byte (45_control_flow.md R228, 46_singletons.md R260). -/
def displace (w : Word) (e : Byte) : Word := BitVec.ofInt 16 ((w.toNat : Int) + s8 e)

end Sys2Proof
end

