-- ==== Sys2Proof/Config.lean ====
section
/-! DEFINITION. What one implementation of the core fixes, 00_scope.md R7 and R8. The structure is here: the two
dispatch tables that the parameter `ASSIGNED` speaks of. The named parameters (`ENTRY_VECTOR`, `ASSIGNED`,
`MCYCLES`, `EI_DELAY`, `IRQ_ENTRY_MCYCLES`, `HIGH_PAGE`, `RST_VECTOR`) are the structure `Params` of
Sys2Proof/Machine/Params.lean, with this model's values in `Config.params`. "Nothing in this block is `any value` once `reset` has been called"
(93_implementation_defined.md section 1), so there is no free value. -/

namespace Sys2Proof

/-- The two dispatch tables (30_encoding.md R70, R75). -/
inductive Table where
  | primary
  | extended
  deriving DecidableEq, Repr

end Sys2Proof
end

