-- ==== Sys2Proof/Syntax.lean ====
section
/-! DEFINITION. The instructions: one constructor per row of spec/opcode_table.json, in the table's order, over operand
types that hold exactly the values an opcode field can name (30_encoding.md R76 to R81). Each constructor's comment
gives the assembler spelling of R87 and the rule that gives its meaning. -/

namespace Sys2Proof

/-- The seven 8-bit register operands of the code `r` (30_encoding.md R76; code 6 is the memory operand (HL), which has
constructors of its own, and F has no code, 10_state.md R21). -/
inductive Reg8 where
  | b | c | d | e | h | l | a
  deriving DecidableEq, Repr

/-- The pairs of the code `rr` (30_encoding.md R77). -/
inductive Pair where
  | bc | de | hl | sp
  deriving DecidableEq, Repr

/-- The pairs of the code `qq`, used by PUSH and POP (30_encoding.md R78). -/
inductive StackPair where
  | bc | de | hl | af
  deriving DecidableEq, Repr

/-- The condition codes `cc` (30_encoding.md R79). -/
inductive Cond where
  | nz | z | nc | c
  deriving DecidableEq, Repr

/-- One constructor per row of spec/opcode_table.json. `e` and `n` are the byte after the opcode, `nn` the two bytes
after it, low byte first (R74); `t` is a restart number, `b` a bit number (R72). -/
inductive Instr where
  /-- `NOP` (R250). -/
  | nop
  /-- `LD rr,nn` (R119). -/
  | ldRrNn (rr : Pair) (nn : Word)
  /-- `LD (BC),A` (R107). -/
  | ldMemBcA
  /-- `LD (DE),A` (R108). -/
  | ldMemDeA
  /-- `LD A,(BC)` (R105). -/
  | ldAMemBc
  /-- `LD A,(DE)` (R106). -/
  | ldAMemDe
  /-- `LD (HL+),A` (R111). -/
  | ldMemHlIncA
  /-- `LD (HL-),A` (R112). -/
  | ldMemHlDecA
  /-- `LD A,(HL+)` (R109). -/
  | ldAMemHlInc
  /-- `LD A,(HL-)` (R110). -/
  | ldAMemHlDec
  /-- `INC rr` (R144). -/
  | incRr (rr : Pair)
  /-- `DEC rr` (R145). -/
  | decRr (rr : Pair)
  /-- `INC r` (R140). -/
  | incR (r : Reg8)
  /-- `INC (HL)` (R141). -/
  | incMemHl
  /-- `DEC r` (R142). -/
  | decR (r : Reg8)
  /-- `DEC (HL)` (R143). -/
  | decMemHl
  /-- `LD r,n` (R101). -/
  | ldRN (r : Reg8) (n : Byte)
  /-- `LD (HL),n` (R104). -/
  | ldMemHlN (n : Byte)
  /-- `RLCA` (R191). -/
  | rlca
  /-- `RRCA` (R193). -/
  | rrca
  /-- `RLA` (R192). -/
  | rla
  /-- `RRA` (R194). -/
  | rra
  /-- `LD (nn),SP` (R120). -/
  | ldMemNnSp (nn : Word)
  /-- `ADD HL,rr` (R162). -/
  | addHlRr (rr : Pair)
  /-- `STOP` (R256). -/
  | stop
  /-- `JR e` (R228). -/
  | jrE (e : Byte)
  /-- `JR cc,e` (R229). -/
  | jrCcE (cc : Cond) (e : Byte)
  /-- `DAA` (R251). -/
  | daa
  /-- `CPL` (R252). -/
  | cpl
  /-- `SCF` (R253). -/
  | scf
  /-- `CCF` (R254). -/
  | ccf
  /-- `LD r,r'` (R100). -/
  | ldRR (r : Reg8) (r' : Reg8)
  /-- `LD r,(HL)` (R102). -/
  | ldRMemHl (r : Reg8)
  /-- `LD (HL),r` (R103). -/
  | ldMemHlR (r : Reg8)
  /-- `HALT` (R255). -/
  | halt
  /-- `ADD A,r` (R150). -/
  | addAR (r : Reg8)
  /-- `ADD A,(HL)` (R151). -/
  | addAMemHl
  /-- `ADD A,n` (R152). -/
  | addAN (n : Byte)
  /-- `ADC A,r` (R153). -/
  | adcAR (r : Reg8)
  /-- `ADC A,(HL)` (R154). -/
  | adcAMemHl
  /-- `ADC A,n` (R155). -/
  | adcAN (n : Byte)
  /-- `SUB r` (R156). -/
  | subR (r : Reg8)
  /-- `SUB (HL)` (R157). -/
  | subMemHl
  /-- `SUB n` (R158). -/
  | subN (n : Byte)
  /-- `SBC A,r` (R159). -/
  | sbcAR (r : Reg8)
  /-- `SBC A,(HL)` (R160). -/
  | sbcAMemHl
  /-- `SBC A,n` (R161). -/
  | sbcAN (n : Byte)
  /-- `AND r` (R170). -/
  | andR (r : Reg8)
  /-- `AND (HL)` (R171). -/
  | andMemHl
  /-- `AND n` (R172). -/
  | andN (n : Byte)
  /-- `XOR r` (R173). -/
  | xorR (r : Reg8)
  /-- `XOR (HL)` (R174). -/
  | xorMemHl
  /-- `XOR n` (R175). -/
  | xorN (n : Byte)
  /-- `OR r` (R176). -/
  | orR (r : Reg8)
  /-- `OR (HL)` (R177). -/
  | orMemHl
  /-- `OR n` (R178). -/
  | orN (n : Byte)
  /-- `CP r` (R179). -/
  | cpR (r : Reg8)
  /-- `CP (HL)` (R180). -/
  | cpMemHl
  /-- `CP n` (R181). -/
  | cpN (n : Byte)
  /-- `RET cc` (R233). -/
  | retCc (cc : Cond)
  /-- `POP qq` (R224). -/
  | popQq (qq : StackPair)
  /-- `JP cc,nn` (R226). -/
  | jpCcNn (cc : Cond) (nn : Word)
  /-- `JP nn` (R225). -/
  | jpNn (nn : Word)
  /-- `CALL cc,nn` (R231). -/
  | callCcNn (cc : Cond) (nn : Word)
  /-- `PUSH qq` (R223). -/
  | pushQq (qq : StackPair)
  /-- `RST t` (R237). -/
  | rstT (t : BitVec 3)
  /-- `RET` (R232). -/
  | ret
  /-- `PREFIX CB` (R75). -/
  | prefixCb (op2 : Byte)
  /-- `CALL nn` (R230). -/
  | callNn (nn : Word)
  /-- `RETI` (R236). -/
  | reti
  /-- `LDH (n),A` (R114). -/
  | ldhMemNA (n : Byte)
  /-- `LDH A,(n)` (R113). -/
  | ldhAMemN (n : Byte)
  /-- `LD (C),A` (R116). -/
  | ldMemCA
  /-- `LD A,(C)` (R115). -/
  | ldAMemC
  /-- `ADD SP,e` (R262). -/
  | addSpE (e : Byte)
  /-- `JP (HL)` (R227). -/
  | jpHl
  /-- `LD (nn),A` (R118). -/
  | ldMemNnA (nn : Word)
  /-- `LD A,(nn)` (R117). -/
  | ldAMemNn (nn : Word)
  /-- `DI` (R257). -/
  | di
  /-- `EI` (R258). -/
  | ei
  /-- `LD HL,SP+e` (R263). -/
  | ldHlSpE (e : Byte)
  /-- `LD SP,HL` (R121). -/
  | ldSpHl
  /-- `(unassigned 0xD3)` (R259). -/
  | unassignedD3
  /-- `(unassigned 0xDB)` (R259). -/
  | unassignedDB
  /-- `(unassigned 0xDD)` (R259). -/
  | unassignedDD
  /-- `(unassigned 0xE3)` (R259). -/
  | unassignedE3
  /-- `(unassigned 0xE4)` (R259). -/
  | unassignedE4
  /-- `(unassigned 0xEB)` (R259). -/
  | unassignedEB
  /-- `(unassigned 0xEC)` (R259). -/
  | unassignedEC
  /-- `(unassigned 0xED)` (R259). -/
  | unassignedED
  /-- `(unassigned 0xF4)` (R259). -/
  | unassignedF4
  /-- `(unassigned 0xFC)` (R259). -/
  | unassignedFC
  /-- `(unassigned 0xFD)` (R259). -/
  | unassignedFD
  /-- `RLC r` (R195). -/
  | rlcR (r : Reg8)
  /-- `RLC (HL)` (R196). -/
  | rlcMemHl
  /-- `RRC r` (R197). -/
  | rrcR (r : Reg8)
  /-- `RRC (HL)` (R198). -/
  | rrcMemHl
  /-- `RL r` (R199). -/
  | rlR (r : Reg8)
  /-- `RL (HL)` (R200). -/
  | rlMemHl
  /-- `RR r` (R201). -/
  | rrR (r : Reg8)
  /-- `RR (HL)` (R202). -/
  | rrMemHl
  /-- `SLA r` (R203). -/
  | slaR (r : Reg8)
  /-- `SLA (HL)` (R204). -/
  | slaMemHl
  /-- `SRA r` (R205). -/
  | sraR (r : Reg8)
  /-- `SRA (HL)` (R206). -/
  | sraMemHl
  /-- `SWAP r` (R280). -/
  | swapR (r : Reg8)
  /-- `SWAP (HL)` (R281). -/
  | swapMemHl
  /-- `SRL r` (R207). -/
  | srlR (r : Reg8)
  /-- `SRL (HL)` (R208). -/
  | srlMemHl
  /-- `BIT b,r` (R282). -/
  | bitR (b : BitVec 3) (r : Reg8)
  /-- `BIT b,(HL)` (R283). -/
  | bitMemHl (b : BitVec 3)
  /-- `RES b,r` (R284). -/
  | resR (b : BitVec 3) (r : Reg8)
  /-- `RES b,(HL)` (R285). -/
  | resMemHl (b : BitVec 3)
  /-- `SET b,r` (R286). -/
  | setR (b : BitVec 3) (r : Reg8)
  /-- `SET b,(HL)` (R287). -/
  | setMemHl (b : BitVec 3)
  deriving DecidableEq, Repr

end Sys2Proof
end

