-- ==== Sys2Proof/Machine/Flags.lean ====
section
/-! DEFINITION. Every flag computation and every 8-bit datapath, computed exactly over the integers and narrowed at the
end (00_scope.md R10; 10_state.md R24 to R29). -/

namespace Sys2Proof.Machine

/-- The four flags (10_state.md R24, R25). -/
structure Flags where
  z : Bool
  n : Bool
  h : Bool
  c : Bool
  deriving DecidableEq, Repr

/-- `{z, n, h, c, 0b0000}` (00_scope.md R15, 10_state.md R24). -/
def packFlags (fl : Flags) : Byte :=
  BitVec.ofBool fl.z ++ BitVec.ofBool fl.n ++ BitVec.ofBool fl.h ++ BitVec.ofBool fl.c ++ 0b0000#4

/-- `v & 0x0F`, as a number. -/
def lowNibble (v : Byte) : Nat := (v &&& 0x0F).toNat

/-- `add8(a, b, cin)` (42_arithmetic.md R163). -/
def add8 (a b : Byte) (cin : Bool) : Byte × Flags :=
  let w := a.toNat + b.toNat + cin.toNat
  let r := BitVec.ofNat 8 w
  (r, { z := decide (r = 0)
        n := false
        h := decide (lowNibble a + lowNibble b + cin.toNat > 0x0F)
        c := decide (w > 0xFF) })

/-- `sub8(a, b, cin)` (42_arithmetic.md R164). -/
def sub8 (a b : Byte) (cin : Bool) : Byte × Flags :=
  let w : Int := (a.toNat : Int) - b.toNat - cin.toNat
  let r := BitVec.ofInt 8 w
  (r, { z := decide (r = 0)
        n := true
        h := decide ((lowNibble a : Int) - lowNibble b - cin.toNat < 0)
        c := decide (w < 0) })

/-- `AND` (43_logical.md R170): H is 1, N and C are 0. -/
def and8 (a b : Byte) : Byte × Flags :=
  let v := a &&& b
  (v, { z := decide (v = 0), n := false, h := true, c := false })

/-- `XOR` (43_logical.md R173). -/
def xor8 (a b : Byte) : Byte × Flags :=
  let v := a ^^^ b
  (v, { z := decide (v = 0), n := false, h := false, c := false })

/-- `OR` (43_logical.md R176). -/
def or8 (a b : Byte) : Byte × Flags :=
  let v := a ||| b
  (v, { z := decide (v = 0), n := false, h := false, c := false })

/-- The increment of a byte; `c` is the old carry, which is kept (41_incdec.md R140). -/
def inc8 (v : Byte) (c : Bool) : Byte × Flags :=
  let w := v.toNat + 1
  let r := BitVec.ofNat 8 w
  (r, { z := decide (r = 0), n := false, h := decide (lowNibble v + 1 > 0x0F), c := c })

/-- The decrement of a byte; `c` is the old carry, which is kept (41_incdec.md R142). -/
def dec8 (v : Byte) (c : Bool) : Byte × Flags :=
  let w : Int := (v.toNat : Int) - 1
  let r := BitVec.ofInt 8 w
  (r, { z := decide (r = 0), n := true, h := decide ((lowNibble v : Int) - 1 < 0), c := c })

/-- `ADD HL,rr` (42_arithmetic.md R162): Z and N are kept, H is the carry out of bit 7 (10_state.md R28), C the carry out
of bit 15. -/
def addPair (x y : Word) (old : Flags) : Word × Flags :=
  let w := x.toNat + y.toNat
  (BitVec.ofNat 16 w,
    { z := old.z
      n := old.n
      h := decide ((x &&& 0x00FF).toNat + (y &&& 0x00FF).toNat > 0x00FF)
      c := decide (w > 0xFFFF) })

/-- `spadd(e)` (46_singletons.md R260): the result by the signed displacement, H and C by the unsigned byte addition; Z
and N are kept (R262). -/
def spAdd (sp : Word) (e : Byte) (old : Flags) : Word × Flags :=
  (displace sp e,
    { z := old.z
      n := old.n
      h := decide ((sp &&& 0x000F).toNat + (e &&& 0x0F).toNat > 0x0F)
      c := decide ((sp &&& 0x00FF).toNat + e.toNat > 0x00FF) })

/-- `DAA` (46_singletons.md R251): the corrected accumulator and the flags. Both tests of the addition branch look at the
original accumulator. -/
def daa8 (a : Byte) (old : Flags) : Byte × Flags :=
  let low := if old.n then old.h else old.h || decide (lowNibble a > 0x09)
  let high := if old.n then old.c else old.c || decide (a.toNat > 0x99)
  let adj : Nat := (if low then 0x06 else 0) ||| (if high then 0x60 else 0)
  let a2 := if old.n then BitVec.ofInt 8 ((a.toNat : Int) - adj) else BitVec.ofNat 8 (a.toNat + adj)
  (a2, { z := decide (a2 = 0), n := old.n, h := false, c := if old.n then old.c else high })

/-- One bit as a byte, 0 or 1. -/
def bitByte (c : Bool) : Byte := if c then 1 else 0

/-- Circular rotate left: the result and the ejected bit (44_rotate_shift.md R191, R195). -/
def rlc8 (v : Byte) : Byte × Bool := ((v <<< 1) ||| bitByte (v.getLsbD 7), v.getLsbD 7)

/-- Circular rotate right (44_rotate_shift.md R193, R197). -/
def rrc8 (v : Byte) : Byte × Bool := ((v >>> 1) ||| (bitByte (v.getLsbD 0) <<< 7), v.getLsbD 0)

/-- Rotate left through the carry `cin` (44_rotate_shift.md R192, R199). -/
def rl8 (cin : Bool) (v : Byte) : Byte × Bool := ((v <<< 1) ||| bitByte cin, v.getLsbD 7)

/-- Rotate right through the carry `cin` (44_rotate_shift.md R194, R201). -/
def rr8 (cin : Bool) (v : Byte) : Byte × Bool := ((v >>> 1) ||| (bitByte cin <<< 7), v.getLsbD 0)

/-- Shift left, bit 0 filled with 0 (44_rotate_shift.md R203). -/
def sla8 (v : Byte) : Byte × Bool := (v <<< 1, v.getLsbD 7)

/-- Arithmetic shift right, bit 7 kept (44_rotate_shift.md R205). -/
def sra8 (v : Byte) : Byte × Bool := ((v >>> 1) ||| (v &&& 0x80), v.getLsbD 0)

/-- Logical shift right, bit 7 filled with 0 (44_rotate_shift.md R207). -/
def srl8 (v : Byte) : Byte × Bool := (v >>> 1, v.getLsbD 0)

/-- The flag law of the rotate and shift family: `flags(0, 0, 0, c)` (44_rotate_shift.md R190). -/
def rotateFlags (c : Bool) : Flags := { z := false, n := false, h := false, c := c }

/-- `SWAP` (47_extended_bit.md R280): the nibbles change places. -/
def swap8 (v : Byte) : Byte × Flags :=
  let w : Byte := v.extractLsb' 0 4 ++ v.extractLsb' 4 4
  (w, { z := decide (w = 0), n := false, h := false, c := false })

/-- `BIT b` (47_extended_bit.md R282): `c` is the old carry, which is kept. -/
def bitFlags (b : BitVec 3) (v : Byte) (c : Bool) : Flags :=
  { z := !v.getLsbD b.toNat, n := false, h := true, c := c }

/-- `v & ~(1 << b)` (47_extended_bit.md R284). -/
def res8 (b : BitVec 3) (v : Byte) : Byte := v &&& ~~~(1#8 <<< b.toNat)

/-- `v | (1 << b)` (47_extended_bit.md R286). -/
def set8 (b : BitVec 3) (v : Byte) : Byte := v ||| (1#8 <<< b.toNat)

/-- Whether a condition holds of the flags (45_control_flow.md R220). -/
def condHolds (cc : Cond) (fl : Flags) : Bool :=
  match cc with
  | .nz => !fl.z
  | .z => fl.z
  | .nc => !fl.c
  | .c => fl.c

end Sys2Proof.Machine
end

