-- ==== Sys2Proof/WellFormed.lean ====
section
/-! DEFINITION. Which terms of `Instr` are instructions that some bytes decode to. The operand types already exclude
every operand no opcode field can name, so one check is left: the prefix slot. -/

namespace Sys2Proof

/-- The row `PREFIX CB` is the primary slot 0xCB by itself, and "The prefix byte is not an instruction of its own"
(30_encoding.md R75): its two bytes are the extended instruction's, which has a constructor of its own. -/
def notPrefixSlot : Instr → Bool
  | .prefixCb _ => false
  | .nop | .ldRrNn _ _ | .ldMemBcA | .ldMemDeA | .ldAMemBc | .ldAMemDe | .ldMemHlIncA | .ldMemHlDecA
  | .ldAMemHlInc | .ldAMemHlDec | .incRr _ | .decRr _ | .incR _ | .incMemHl | .decR _ | .decMemHl | .ldRN _ _
  | .ldMemHlN _ | .rlca | .rrca | .rla | .rra | .ldMemNnSp _ | .addHlRr _ | .stop | .jrE _ | .jrCcE _ _ | .daa
  | .cpl | .scf | .ccf | .ldRR _ _ | .ldRMemHl _ | .ldMemHlR _ | .halt | .addAR _ | .addAMemHl | .addAN _
  | .adcAR _ | .adcAMemHl | .adcAN _ | .subR _ | .subMemHl | .subN _ | .sbcAR _ | .sbcAMemHl | .sbcAN _
  | .andR _ | .andMemHl | .andN _ | .xorR _ | .xorMemHl | .xorN _ | .orR _ | .orMemHl | .orN _ | .cpR _
  | .cpMemHl | .cpN _ | .retCc _ | .popQq _ | .jpCcNn _ _ | .jpNn _ | .callCcNn _ _ | .pushQq _ | .rstT _ | .ret
  | .callNn _ | .reti | .ldhMemNA _ | .ldhAMemN _ | .ldMemCA | .ldAMemC | .addSpE _ | .jpHl | .ldMemNnA _
  | .ldAMemNn _ | .di | .ei | .ldHlSpE _ | .ldSpHl | .unassignedD3 | .unassignedDB | .unassignedDD
  | .unassignedE3 | .unassignedE4 | .unassignedEB | .unassignedEC | .unassignedED | .unassignedF4
  | .unassignedFC | .unassignedFD | .rlcR _ | .rlcMemHl | .rrcR _ | .rrcMemHl | .rlR _ | .rlMemHl | .rrR _
  | .rrMemHl | .slaR _ | .slaMemHl | .sraR _ | .sraMemHl | .swapR _ | .swapMemHl | .srlR _ | .srlMemHl
  | .bitR _ _ | .bitMemHl _ | .resR _ _ | .resMemHl _ | .setR _ _ | .setMemHl _ => true

/-- The well-formed instructions: those some bytes decode to. -/
def WellFormed (i : Instr) : Bool := notPrefixSlot i

end Sys2Proof
end

