-- ==== Sys2Proof/Decode.lean ====
section
/-! DEFINITION. Decoding and encoding: the opcode maps of 30_encoding.md R82 and R83 by the bit fields of R72, the
length as a function of the first byte (R70, R73), and the encoder written from the bit patterns of the same rules. -/

namespace Sys2Proof

/-! ### Operand codes (R76 to R79) -/

/-- The code `r` of a register (R76). -/
def reg8Code : Reg8 → BitVec 3
  | .b => 0 | .c => 1 | .d => 2 | .e => 3 | .h => 4 | .l => 5 | .a => 7

/-- The operand of the code `r`: a register, or `none` for code 6, the memory operand (HL) (R76). -/
def reg8Of (i : BitVec 3) : Option Reg8 :=
  match i.toNat with
  | 0 => some .b | 1 => some .c | 2 => some .d | 3 => some .e
  | 4 => some .h | 5 => some .l | 6 => none | _ => some .a

/-- The code `rr` of a pair (R77). -/
def pairCode : Pair → BitVec 2
  | .bc => 0 | .de => 1 | .hl => 2 | .sp => 3

def pairOf (i : BitVec 2) : Pair :=
  match i.toNat with
  | 0 => .bc | 1 => .de | 2 => .hl | _ => .sp

/-- The code `qq` of a pair (R78). -/
def stackPairCode : StackPair → BitVec 2
  | .bc => 0 | .de => 1 | .hl => 2 | .af => 3

def stackPairOf (i : BitVec 2) : StackPair :=
  match i.toNat with
  | 0 => .bc | 1 => .de | 2 => .hl | _ => .af

/-- The code `cc` of a condition (R79). -/
def condCode : Cond → BitVec 2
  | .nz => 0 | .z => 1 | .nc => 2 | .c => 3

def condOf (i : BitVec 2) : Cond :=
  match i.toNat with
  | 0 => .nz | 1 => .z | 2 => .nc | _ => .c

/-! ### The bit fields of an opcode byte (R72) -/

/-- `x = op[7:6]`. -/
def fieldX (op : Byte) : BitVec 2 := op.extractLsb' 6 2
/-- `y = op[5:3]`. -/
def fieldY (op : Byte) : BitVec 3 := op.extractLsb' 3 3
/-- `z = op[2:0]`. -/
def fieldZ (op : Byte) : BitVec 3 := op.extractLsb' 0 3
/-- `p = op[5:4]`. -/
def fieldP (op : Byte) : BitVec 2 := op.extractLsb' 4 2
/-- `q = op[3]`. -/
def fieldQ (op : Byte) : Bool := op.getLsbD 3
/-- `cc = op[4:3]`. -/
def fieldCc (op : Byte) : BitVec 2 := op.extractLsb' 3 2

/-! ### The primary table (R82) -/

/-- What a primary slot holds, by the formats of R71: an instruction (`F1`), one that takes the next byte (`F2N`,
`F2E`), one that takes the next two (`F3`), or the prefix (`FCB`). -/
inductive Form where
  | f1 (i : Instr)
  | f2 (k : Byte → Instr)
  | f3 (k : Word → Instr)
  | fcb

/-- Opcodes 0x00 to 0x3F. -/
def primaryX0 (op : Byte) : Form :=
  match (fieldZ op).toNat with
  | 0 =>
    match (fieldY op).toNat with
    | 0 => .f1 .nop
    | 1 => .f3 .ldMemNnSp
    | 2 => .f1 .stop
    | 3 => .f2 .jrE
    | _ => .f2 (.jrCcE (condOf (fieldCc op)))
  | 1 => if fieldQ op then .f1 (.addHlRr (pairOf (fieldP op))) else .f3 (.ldRrNn (pairOf (fieldP op)))
  | 2 =>
    match (fieldY op).toNat with
    | 0 => .f1 .ldMemBcA
    | 1 => .f1 .ldAMemBc
    | 2 => .f1 .ldMemDeA
    | 3 => .f1 .ldAMemDe
    | 4 => .f1 .ldMemHlIncA
    | 5 => .f1 .ldAMemHlInc
    | 6 => .f1 .ldMemHlDecA
    | _ => .f1 .ldAMemHlDec
  | 3 => if fieldQ op then .f1 (.decRr (pairOf (fieldP op))) else .f1 (.incRr (pairOf (fieldP op)))
  | 4 =>
    match reg8Of (fieldY op) with
    | some r => .f1 (.incR r)
    | none => .f1 .incMemHl
  | 5 =>
    match reg8Of (fieldY op) with
    | some r => .f1 (.decR r)
    | none => .f1 .decMemHl
  | 6 =>
    match reg8Of (fieldY op) with
    | some r => .f2 (.ldRN r)
    | none => .f2 .ldMemHlN
  | _ =>
    match (fieldY op).toNat with
    | 0 => .f1 .rlca
    | 1 => .f1 .rrca
    | 2 => .f1 .rla
    | 3 => .f1 .rra
    | 4 => .f1 .daa
    | 5 => .f1 .cpl
    | 6 => .f1 .scf
    | _ => .f1 .ccf

/-- Opcodes 0x40 to 0x7F: loads between `r` operands, and HALT in the place of (HL),(HL). -/
def primaryX1 (op : Byte) : Form :=
  match reg8Of (fieldY op), reg8Of (fieldZ op) with
  | some r, some r' => .f1 (.ldRR r r')
  | some r, none => .f1 (.ldRMemHl r)
  | none, some r' => .f1 (.ldMemHlR r')
  | none, none => .f1 .halt

/-- Opcodes 0x80 to 0xBF: the ALU operation `y` (R80) on the operand `z`. -/
def primaryX2 (op : Byte) : Form :=
  match (fieldY op).toNat, reg8Of (fieldZ op) with
  | 0, some r => .f1 (.addAR r)
  | 0, none => .f1 .addAMemHl
  | 1, some r => .f1 (.adcAR r)
  | 1, none => .f1 .adcAMemHl
  | 2, some r => .f1 (.subR r)
  | 2, none => .f1 .subMemHl
  | 3, some r => .f1 (.sbcAR r)
  | 3, none => .f1 .sbcAMemHl
  | 4, some r => .f1 (.andR r)
  | 4, none => .f1 .andMemHl
  | 5, some r => .f1 (.xorR r)
  | 5, none => .f1 .xorMemHl
  | 6, some r => .f1 (.orR r)
  | 6, none => .f1 .orMemHl
  | _, some r => .f1 (.cpR r)
  | _, none => .f1 .cpMemHl

/-- Opcodes 0xC0 to 0xFF, the 11 slots that the map leaves empty among them (R84); whether a slot is in `ASSIGNED` is the
step's check before it runs one (R89; `State.assignedAtPc`). -/
def primaryX3 (op : Byte) : Form :=
  match (fieldZ op).toNat with
  | 0 =>
    match (fieldY op).toNat with
    | 4 => .f2 .ldhMemNA
    | 5 => .f2 .addSpE
    | 6 => .f2 .ldhAMemN
    | 7 => .f2 .ldHlSpE
    | _ => .f1 (.retCc (condOf (fieldCc op)))
  | 1 =>
    if fieldQ op then
      match (fieldP op).toNat with
      | 0 => .f1 .ret
      | 1 => .f1 .reti
      | 2 => .f1 .jpHl
      | _ => .f1 .ldSpHl
    else .f1 (.popQq (stackPairOf (fieldP op)))
  | 2 =>
    match (fieldY op).toNat with
    | 4 => .f1 .ldMemCA
    | 5 => .f3 .ldMemNnA
    | 6 => .f1 .ldAMemC
    | 7 => .f3 .ldAMemNn
    | _ => .f3 (.jpCcNn (condOf (fieldCc op)))
  | 3 =>
    match (fieldY op).toNat with
    | 0 => .f3 .jpNn
    | 1 => .fcb
    | 2 => .f1 .unassignedD3
    | 3 => .f1 .unassignedDB
    | 4 => .f1 .unassignedE3
    | 5 => .f1 .unassignedEB
    | 6 => .f1 .di
    | _ => .f1 .ei
  | 4 =>
    match (fieldY op).toNat with
    | 4 => .f1 .unassignedE4
    | 5 => .f1 .unassignedEC
    | 6 => .f1 .unassignedF4
    | 7 => .f1 .unassignedFC
    | _ => .f3 (.callCcNn (condOf (fieldCc op)))
  | 5 =>
    if fieldQ op then
      match (fieldP op).toNat with
      | 0 => .f3 .callNn
      | 1 => .f1 .unassignedDD
      | 2 => .f1 .unassignedED
      | _ => .f1 .unassignedFD
    else .f1 (.pushQq (stackPairOf (fieldP op)))
  | 6 =>
    match (fieldY op).toNat with
    | 0 => .f2 .addAN
    | 1 => .f2 .adcAN
    | 2 => .f2 .subN
    | 3 => .f2 .sbcAN
    | 4 => .f2 .andN
    | 5 => .f2 .xorN
    | 6 => .f2 .orN
    | _ => .f2 .cpN
  | _ => .f1 (.rstT (fieldY op))

/-- The primary table: all 256 slots (R82). -/
def primaryForm (op : Byte) : Form :=
  match (fieldX op).toNat with
  | 0 => primaryX0 op
  | 1 => primaryX1 op
  | 2 => primaryX2 op
  | _ => primaryX3 op

/-! ### The extended table (R81, R83) -/

/-- Extended opcodes 0x00 to 0x3F: the operation `y` (R81) on the operand `z`. -/
def extendedX0 (op2 : Byte) : Instr :=
  match (fieldY op2).toNat, reg8Of (fieldZ op2) with
  | 0, some r => .rlcR r
  | 0, none => .rlcMemHl
  | 1, some r => .rrcR r
  | 1, none => .rrcMemHl
  | 2, some r => .rlR r
  | 2, none => .rlMemHl
  | 3, some r => .rrR r
  | 3, none => .rrMemHl
  | 4, some r => .slaR r
  | 4, none => .slaMemHl
  | 5, some r => .sraR r
  | 5, none => .sraMemHl
  | 6, some r => .swapR r
  | 6, none => .swapMemHl
  | _, some r => .srlR r
  | _, none => .srlMemHl

/-- The extended table, selected by the byte after 0xCB: all 256 slots (R83). -/
def decodeExtended (op2 : Byte) : Instr :=
  match (fieldX op2).toNat, reg8Of (fieldZ op2) with
  | 0, _ => extendedX0 op2
  | 1, some r => .bitR (fieldY op2) r
  | 1, none => .bitMemHl (fieldY op2)
  | 2, some r => .resR (fieldY op2) r
  | 2, none => .resMemHl (fieldY op2)
  | _, some r => .setR (fieldY op2) r
  | _, none => .setMemHl (fieldY op2)

/-! ### Decoding bytes -/

/-- The instruction whose bytes begin with `b0`, `b1`, `b2` (R71, R74). A form shorter than three bytes does not look at
the bytes after it. -/
def instrOf (b0 b1 b2 : Byte) : Instr :=
  match primaryForm b0 with
  | .f1 i => i
  | .f2 k => k b1
  | .f3 k => k (makeWord b2 b1)
  | .fcb => decodeExtended b1

/-- Why a list of bytes holds no whole instruction. -/
inductive Reject where
  /-- the list ends before the instruction does; never raised by the machine, whose memory has no end -/
  | truncated
  deriving DecidableEq, Repr

/-- The first instruction of a list of bytes, and the bytes after it. -/
def decode : List Byte → Except Reject (Instr × List Byte)
  | [] => .error .truncated
  | b0 :: rest =>
    match primaryForm b0, rest with
    | .f1 i, rest => .ok (i, rest)
    | .f2 k, b1 :: rest => .ok (k b1, rest)
    | .f3 k, b1 :: b2 :: rest => .ok (k (makeWord b2 b1), rest)
    | .fcb, b1 :: rest => .ok (decodeExtended b1, rest)
    | _, _ => .error .truncated

/-- The instruction of a word whose bits are numbered as spec/opcode_table.json numbers them: byte k of the instruction
is bits 8k+7 to 8k, and every bit above `nbits` is 0. -/
def tableBytes (nbits w : Nat) : Byte × Byte × Byte :=
  let v := w % 2 ^ nbits
  (BitVec.ofNat 8 v, BitVec.ofNat 8 (v / 256), BitVec.ofNat 8 (v / 65536))

def decodeTableWord (nbits w : Nat) : Option Instr :=
  match tableBytes nbits w with
  | (b0, b1, b2) =>
    match decode [b0, b1, b2] with
    | .ok (i, _) => some i
    | .error _ => none

/-! ### Encoding -/

/-- The two bytes of an extended instruction. -/
def encodeExtended (op2 : Byte) : List Byte := [0xCB, op2]

/-- An opcode byte with a 16-bit immediate, low byte first (R74). -/
def encodeF3 (op : Byte) (nn : Word) : List Byte := [op, loByte nn, hiByte nn]

/-- The bytes of an instruction, from the bit patterns of R82 and R83. -/
def encode : Instr → List Byte
  | .nop => [0b00000000]
  | .ldRrNn rr nn => encodeF3 (0b00#2 ++ pairCode rr ++ 0b0001#4) nn
  | .ldMemBcA => [0b00000010]
  | .ldMemDeA => [0b00010010]
  | .ldAMemBc => [0b00001010]
  | .ldAMemDe => [0b00011010]
  | .ldMemHlIncA => [0b00100010]
  | .ldMemHlDecA => [0b00110010]
  | .ldAMemHlInc => [0b00101010]
  | .ldAMemHlDec => [0b00111010]
  | .incRr rr => [0b00#2 ++ pairCode rr ++ 0b0011#4]
  | .decRr rr => [0b00#2 ++ pairCode rr ++ 0b1011#4]
  | .incR r => [0b00#2 ++ reg8Code r ++ 0b100#3]
  | .incMemHl => [0b00110100]
  | .decR r => [0b00#2 ++ reg8Code r ++ 0b101#3]
  | .decMemHl => [0b00110101]
  | .ldRN r n => [0b00#2 ++ reg8Code r ++ 0b110#3, n]
  | .ldMemHlN n => [0b00110110, n]
  | .rlca => [0b00000111]
  | .rrca => [0b00001111]
  | .rla => [0b00010111]
  | .rra => [0b00011111]
  | .ldMemNnSp nn => encodeF3 0b00001000 nn
  | .addHlRr rr => [0b00#2 ++ pairCode rr ++ 0b1001#4]
  | .stop => [0b00010000]
  | .jrE e => [0b00011000, e]
  | .jrCcE cc e => [0b001#3 ++ condCode cc ++ 0b000#3, e]
  | .daa => [0b00100111]
  | .cpl => [0b00101111]
  | .scf => [0b00110111]
  | .ccf => [0b00111111]
  | .ldRR r r' => [0b01#2 ++ reg8Code r ++ reg8Code r']
  | .ldRMemHl r => [0b01#2 ++ reg8Code r ++ 0b110#3]
  | .ldMemHlR r => [0b01110#5 ++ reg8Code r]
  | .halt => [0b01110110]
  | .addAR r => [0b10000#5 ++ reg8Code r]
  | .addAMemHl => [0b10000110]
  | .addAN n => [0b11000110, n]
  | .adcAR r => [0b10001#5 ++ reg8Code r]
  | .adcAMemHl => [0b10001110]
  | .adcAN n => [0b11001110, n]
  | .subR r => [0b10010#5 ++ reg8Code r]
  | .subMemHl => [0b10010110]
  | .subN n => [0b11010110, n]
  | .sbcAR r => [0b10011#5 ++ reg8Code r]
  | .sbcAMemHl => [0b10011110]
  | .sbcAN n => [0b11011110, n]
  | .andR r => [0b10100#5 ++ reg8Code r]
  | .andMemHl => [0b10100110]
  | .andN n => [0b11100110, n]
  | .xorR r => [0b10101#5 ++ reg8Code r]
  | .xorMemHl => [0b10101110]
  | .xorN n => [0b11101110, n]
  | .orR r => [0b10110#5 ++ reg8Code r]
  | .orMemHl => [0b10110110]
  | .orN n => [0b11110110, n]
  | .cpR r => [0b10111#5 ++ reg8Code r]
  | .cpMemHl => [0b10111110]
  | .cpN n => [0b11111110, n]
  | .retCc cc => [0b110#3 ++ condCode cc ++ 0b000#3]
  | .popQq qq => [0b11#2 ++ stackPairCode qq ++ 0b0001#4]
  | .jpCcNn cc nn => encodeF3 (0b110#3 ++ condCode cc ++ 0b010#3) nn
  | .jpNn nn => encodeF3 0b11000011 nn
  | .callCcNn cc nn => encodeF3 (0b110#3 ++ condCode cc ++ 0b100#3) nn
  | .pushQq qq => [0b11#2 ++ stackPairCode qq ++ 0b0101#4]
  | .rstT t => [0b11#2 ++ t ++ 0b111#3]
  | .ret => [0b11001001]
  | .prefixCb op2 => encodeExtended op2
  | .callNn nn => encodeF3 0b11001101 nn
  | .reti => [0b11011001]
  | .ldhMemNA n => [0b11100000, n]
  | .ldhAMemN n => [0b11110000, n]
  | .ldMemCA => [0b11100010]
  | .ldAMemC => [0b11110010]
  | .addSpE e => [0b11101000, e]
  | .jpHl => [0b11101001]
  | .ldMemNnA nn => encodeF3 0b11101010 nn
  | .ldAMemNn nn => encodeF3 0b11111010 nn
  | .di => [0b11110011]
  | .ei => [0b11111011]
  | .ldHlSpE e => [0b11111000, e]
  | .ldSpHl => [0b11111001]
  | .unassignedD3 => [0xD3]
  | .unassignedDB => [0xDB]
  | .unassignedDD => [0xDD]
  | .unassignedE3 => [0xE3]
  | .unassignedE4 => [0xE4]
  | .unassignedEB => [0xEB]
  | .unassignedEC => [0xEC]
  | .unassignedED => [0xED]
  | .unassignedF4 => [0xF4]
  | .unassignedFC => [0xFC]
  | .unassignedFD => [0xFD]
  | .rlcR r => encodeExtended (0b00000#5 ++ reg8Code r)
  | .rlcMemHl => encodeExtended 0b00000110
  | .rrcR r => encodeExtended (0b00001#5 ++ reg8Code r)
  | .rrcMemHl => encodeExtended 0b00001110
  | .rlR r => encodeExtended (0b00010#5 ++ reg8Code r)
  | .rlMemHl => encodeExtended 0b00010110
  | .rrR r => encodeExtended (0b00011#5 ++ reg8Code r)
  | .rrMemHl => encodeExtended 0b00011110
  | .slaR r => encodeExtended (0b00100#5 ++ reg8Code r)
  | .slaMemHl => encodeExtended 0b00100110
  | .sraR r => encodeExtended (0b00101#5 ++ reg8Code r)
  | .sraMemHl => encodeExtended 0b00101110
  | .swapR r => encodeExtended (0b00110#5 ++ reg8Code r)
  | .swapMemHl => encodeExtended 0b00110110
  | .srlR r => encodeExtended (0b00111#5 ++ reg8Code r)
  | .srlMemHl => encodeExtended 0b00111110
  | .bitR b r => encodeExtended (0b01#2 ++ b ++ reg8Code r)
  | .bitMemHl b => encodeExtended (0b01#2 ++ b ++ 0b110#3)
  | .resR b r => encodeExtended (0b10#2 ++ b ++ reg8Code r)
  | .resMemHl b => encodeExtended (0b10#2 ++ b ++ 0b110#3)
  | .setR b r => encodeExtended (0b11#2 ++ b ++ reg8Code r)
  | .setMemHl b => encodeExtended (0b11#2 ++ b ++ 0b110#3)

/-- The length in bytes (R70, R71). An unassigned slot has none (R84: "nothing further is fetched"); its one byte is
counted here (log entry 17). -/
def instrLength : Instr → Nat
  | .ldRrNn _ _ | .ldMemNnSp _ | .jpCcNn _ _ | .jpNn _ | .callCcNn _ _ | .callNn _ | .ldMemNnA _ | .ldAMemNn _ => 3
  | .ldRN _ _ | .ldMemHlN _ | .jrE _ | .jrCcE _ _ | .addAN _ | .adcAN _ | .subN _ | .sbcAN _ | .andN _ | .xorN _
  | .orN _ | .cpN _ | .ldhMemNA _ | .ldhAMemN _ | .addSpE _ | .ldHlSpE _ | .prefixCb _ => 2
  | .rlcR _ | .rlcMemHl | .rrcR _ | .rrcMemHl | .rlR _ | .rlMemHl | .rrR _ | .rrMemHl | .slaR _ | .slaMemHl
  | .sraR _ | .sraMemHl | .swapR _ | .swapMemHl | .srlR _ | .srlMemHl | .bitR _ _ | .bitMemHl _ | .resR _ _
  | .resMemHl _ | .setR _ _ | .setMemHl _ => 2
  | .nop | .ldMemBcA | .ldMemDeA | .ldAMemBc | .ldAMemDe | .ldMemHlIncA | .ldMemHlDecA | .ldAMemHlInc | .ldAMemHlDec
  | .incRr _ | .decRr _ | .incR _ | .incMemHl | .decR _ | .decMemHl | .rlca | .rrca | .rla | .rra | .addHlRr _ | .stop
  | .daa | .cpl | .scf | .ccf | .ldRR _ _ | .ldRMemHl _ | .ldMemHlR _ | .halt | .addAR _ | .addAMemHl | .adcAR _
  | .adcAMemHl | .subR _ | .subMemHl | .sbcAR _ | .sbcAMemHl | .andR _ | .andMemHl | .xorR _ | .xorMemHl | .orR _
  | .orMemHl | .cpR _ | .cpMemHl | .retCc _ | .popQq _ | .pushQq _ | .rstT _ | .ret | .reti | .ldMemCA | .ldAMemC
  | .jpHl | .di | .ei | .ldSpHl => 1
  | .unassignedD3 | .unassignedDB | .unassignedDD | .unassignedE3 | .unassignedE4 | .unassignedEB | .unassignedEC
  | .unassignedED | .unassignedF4 | .unassignedFC | .unassignedFD => 1

end Sys2Proof
end

