-- ==== Sys2Proof/Machine/Costs.lean ====
section
/-! DEFINITION. The cost table `MCYCLES` (00_scope.md R8, 70_reset_and_hazards.md R349), in machine cycles. Every meaning
ticks what the parameter says, and this table is the parameter's value (`Config.params`). -/

namespace Sys2Proof.Machine

/-- The cost of an extended instruction by its second byte (R349: 2 for a register, 4 for (HL), 3 for `BIT b,(HL)`). -/
def extendedCost (op2 : Byte) : Nat :=
  match reg8Of (fieldZ op2) with
  | some _ => 2
  | none => if (fieldX op2).toNat = 1 then 3 else 4

/-- The cost of an instruction; `taken` matters only to a conditional transfer (R348). An unassigned slot costs 0. -/
def mcycles (i : Instr) (taken : Bool) : Nat :=
  match i with
  | .nop | .daa | .cpl | .scf | .ccf | .halt | .stop | .di | .ei | .rlca | .rla | .rrca | .rra | .jpHl => 1
  | .ldRR _ _ | .incR _ | .decR _ => 1
  | .addAR _ | .adcAR _ | .subR _ | .sbcAR _ | .andR _ | .xorR _ | .orR _ | .cpR _ => 1
  | .addAMemHl | .adcAMemHl | .subMemHl | .sbcAMemHl | .andMemHl | .xorMemHl | .orMemHl | .cpMemHl => 2
  | .addAN _ | .adcAN _ | .subN _ | .sbcAN _ | .andN _ | .xorN _ | .orN _ | .cpN _ => 2
  | .ldRN _ _ | .ldRMemHl _ | .ldAMemBc | .ldAMemDe | .ldMemHlR _ | .ldMemBcA | .ldMemDeA => 2
  | .ldAMemHlInc | .ldAMemHlDec | .ldMemHlIncA | .ldMemHlDecA | .ldAMemC | .ldMemCA | .ldSpHl => 2
  | .incRr _ | .decRr _ | .addHlRr _ => 2
  | .ldMemHlN _ | .ldRrNn _ _ | .ldhAMemN _ | .ldhMemNA _ | .ldAMemNn _ | .ldMemNnA _ => 3
  | .incMemHl | .decMemHl | .popQq _ | .jrE _ | .ldHlSpE _ => 3
  | .pushQq _ | .jpNn _ | .ret | .reti | .rstT _ | .addSpE _ => 4
  | .ldMemNnSp _ => 5
  | .callNn _ => 6
  | .jpCcNn _ _ => if taken then 4 else 3
  | .jrCcE _ _ => if taken then 3 else 2
  | .callCcNn _ _ => if taken then 6 else 3
  | .retCc _ => if taken then 5 else 2
  | .rlcR _ | .rrcR _ | .rlR _ | .rrR _ | .slaR _ | .sraR _ | .swapR _ | .srlR _ => 2
  | .bitR _ _ | .resR _ _ | .setR _ _ => 2
  | .rlcMemHl | .rrcMemHl | .rlMemHl | .rrMemHl | .slaMemHl | .sraMemHl | .swapMemHl | .srlMemHl => 4
  | .bitMemHl _ => 3
  | .resMemHl _ | .setMemHl _ => 4
  | .prefixCb op2 => extendedCost op2
  | .unassignedD3 | .unassignedDB | .unassignedDD | .unassignedE3 | .unassignedE4 | .unassignedEB | .unassignedEC
  | .unassignedED | .unassignedF4 | .unassignedFC | .unassignedFD => 0

end Sys2Proof.Machine
end

