-- ==== Sys2Proof/Machine/Params.lean ====
section
/-! DEFINITION. The named parameters of 00_scope.md R8: "Each is an argument of the step relation, not state". `Params` holds
one choice of them all, and every meaning, the step and the host's calls take one. `Config.params` is the choice of this
model: the decided values, and log entry 1 for the open one. -/

namespace Sys2Proof

/-- One choice of the parameters (00_scope.md R8). -/
structure Params where
  /-- `ENTRY_VECTOR`: where reset puts PC (70_reset_and_hazards.md R341) -/
  entryVector : Word
  /-- `ASSIGNED`: the slots that have a handler; it may be narrower than the opcode table (30_encoding.md R84, R86) -/
  assigned : Table → Byte → Bool
  /-- `MCYCLES`: the cost of an instruction, taken or not taken (70_reset_and_hazards.md R348, R349) -/
  mcycles : Instr → Bool → Nat
  /-- `EI_DELAY` (46_singletons.md R258) -/
  eiDelay : Bool
  /-- `IRQ_ENTRY_MCYCLES` (60_exceptions.md R312) -/
  irqEntryMcycles : Nat
  /-- `HIGH_PAGE` (20_memory.md R65) -/
  highPage : Byte
  /-- `RST_VECTOR` (20_memory.md R65) -/
  rstVector : BitVec 3 → Word

/-- The cost of an instruction that is no conditional transfer. -/
def Params.cost (p : Params) (i : Instr) : Nat := p.mcycles i true

/-- `ENTRY_VECTOR` (R8, 70_reset_and_hazards.md R341). The spec leaves it OPEN. DESIGN CHOICE (log entry 1): the value
that 95_test_vectors.md assumes for its own vectors. Statements about reset quantify over every value of it
(`Machine.State.resetAt`). -/
def Config.entryVector : Word := 0x0100

/-- `EI_DELAY` (R8, 46_singletons.md R258, 92_eei_decisions.md D13): false, the spec's default (log entry 3). -/
def Config.eiDelay : Bool := false

/-- `IRQ_ENTRY_MCYCLES` (R8, 60_exceptions.md R312, D11). -/
def Config.irqEntryMcycles : Nat := 5

/-- `HIGH_PAGE` (R8, 20_memory.md R65, D15). -/
def Config.highPage : Byte := 0xFF

/-- `RST_VECTOR[t] = 8 * t` (R8, 20_memory.md R65, D16). -/
def Config.rstVector (t : BitVec 3) : Word := BitVec.ofNat 16 (8 * t.toNat)

/-- `ASSIGNED` (R8, 30_encoding.md R84, D1, D2): every slot but the 11 primary bytes the map leaves empty. -/
def Config.assigned : Table → Byte → Bool
  | .primary, op =>
    !([0xD3, 0xDB, 0xDD, 0xE3, 0xE4, 0xEB, 0xEC, 0xED, 0xF4, 0xFC, 0xFD] : List Byte).contains op
  | .extended, _ => true

/-- The parameters of this model; `MCYCLES` is the `mcycles` column of the opcode table (Sys2Proof/Machine/Costs.lean). -/
def Config.params : Params where
  entryVector := Config.entryVector
  assigned := Config.assigned
  mcycles := Machine.mcycles
  eiDelay := Config.eiDelay
  irqEntryMcycles := Config.irqEntryMcycles
  highPage := Config.highPage
  rstVector := Config.rstVector

end Sys2Proof
end

