-- ==== Sys2Proof/Machine/State.lean ====
section
/-! DEFINITION. The state of the core: every piece of state that 10_state.md gives it, as plain data, and the two ways
a step can stop. INVENTORY.md lists each field with its rule and its reset value. -/

namespace Sys2Proof.Machine

/-- The memory array `MEM` (10_state.md R37): the cells that differ from 0x00, by rising address. An address that is not
listed reads 0x00, what reset leaves in every cell (R40). The canonical form is `Memory.wf`. -/
abbrev Memory := List Host.Cell

/-- The architectural state (10_state.md). -/
structure State where
  /-- accumulator (R20) -/
  a : Byte
  b : Byte
  c : Byte
  d : Byte
  e : Byte
  h : Byte
  l : Byte
  /-- flag register, `{Z, N, H, C, 0, 0, 0, 0}` (R24) -/
  f : Byte
  /-- program counter (R30) -/
  pc : Word
  /-- stack pointer (R31) -/
  sp : Word
  /-- machine cycles, without bound (R32) -/
  mclk : Nat
  /-- time cycles, without bound (R32) -/
  tclk : Nat
  /-- the latch `HALT` (R33) -/
  halt : Bool
  /-- the latch `STOP` (R33) -/
  stop : Bool
  /-- the interrupt-enable latch `IME` (R33) -/
  ime : Bool
  /-- the pending interrupt request `IRQ` (R35) -/
  irq : Option Word
  /-- the session flag `INIT`: false until the first reset (R36) -/
  init : Bool
  /-- `EI_PENDING` (46_singletons.md R258), set only under `EI_DELAY = true` -/
  eiPending : Bool
  /-- the memory array `MEM` (R37) -/
  mem : Memory
  deriving DecidableEq, Repr

/-- Why a step ends in a fault. -/
inductive Fault where
  /-- The status `IllegalOpcode(bytes)` (60_exceptions.md R301): raised by the meaning of each unassigned slot (and by a
  prefix whose second byte is unassigned, which the default `ASSIGNED` does not have). No state changes, so the
  state before the step is the state after it. Safe: "A model should treat IllegalOpcode as a fault" (R301). -/
  | illegalOpcode (bytes : List Byte)
  deriving DecidableEq, Repr

/-- Why a step or a host call is refused. -/
inductive Refusal where
  /-- `exec` of an instruction that has no meaning yet; raised by nothing: every arm has its meaning. Safe. -/
  | notModelled (mnemonic : String)
  /-- Any host call but `reset` while `INIT = 0` (60_exceptions.md R303): "a model refuses it". Safe. -/
  | uninitializedSession
  /-- `loadImage` after a step (20_memory.md R66): "otherwise the model refuses it". Safe. -/
  | imageAfterStep
  /-- `loadImage` past address 0xFFFF (20_memory.md R66): "otherwise the model refuses it". Safe. -/
  | imageTooLong
  deriving DecidableEq, Repr

/-- What a step or a meaning answers. -/
abbrev Result := Host.Outcome State Fault Refusal

/-- The state after `reset()` when the entry vector is `entry` (10_state.md R40, 70_reset_and_hazards.md R340). -/
def State.resetAt (entry : Word) : State where
  a := 0
  b := 0
  c := 0
  d := 0
  e := 0
  h := 0
  l := 0
  f := 0
  pc := entry
  sp := 0
  mclk := 0
  tclk := 0
  halt := false
  stop := false
  ime := false
  irq := none
  init := true
  eiPending := false
  mem := []

/-- The state after `reset()`, with PC at `ENTRY_VECTOR` (R40; log entry 1). -/
def State.reset : State := State.resetAt Config.entryVector

end Sys2Proof.Machine
end

