-- ==== Sys2Proof/Machine/Memory.lean ====
section
/-! DEFINITION. The memory array as a list of cells in one canonical form (10_state.md R37, 20_memory.md R50, R51). -/

namespace Sys2Proof.Machine

/-- `MEM[a]` (20_memory.md R50): the listed byte, or 0x00. -/
def Memory.read : Memory → Nat → Byte
  | [], _ => 0
  | (k, v) :: m, a => if a < k then 0 else if a = k then v else Memory.read m a

/-- `MEM[a] <- v` (20_memory.md R51), keeping the canonical form: a zero is not listed. -/
def Memory.write : Memory → Nat → Byte → Memory
  | [], a, v => if v = 0 then [] else [(a, v)]
  | (k, u) :: m, a, v =>
    if a < k then (if v = 0 then (k, u) :: m else (a, v) :: (k, u) :: m)
    else if a = k then (if v = 0 then m else (a, v) :: m)
    else (k, u) :: Memory.write m a v

/-- The cells from address `lo` on are listed by strictly rising address below 65536, none of them 0x00. -/
def Memory.wfFrom : Nat → Memory → Bool
  | _, [] => true
  | lo, (k, v) :: m => decide (lo ≤ k) && decide (k < 65536) && decide (v ≠ 0) && Memory.wfFrom (k + 1) m

/-- The canonical form of the memory array. -/
def Memory.wf (m : Memory) : Bool := Memory.wfFrom 0 m

end Sys2Proof.Machine
end

