-- ==== Sys2Proof/Machine/Ops.lean ====
section
/-! DEFINITION. The named operations over memory, the program counter, the stack, the clocks and the latches; taking an interrupt
and returning from it; raising IllegalOpcode. -/

namespace Sys2Proof.Machine

/-! ### Memory (20_memory.md R50 to R53) -/

/-- `MemRead(a, 1)`. -/
def State.readByte (s : State) (a : Word) : Byte := Memory.read s.mem a.toNat

/-- `MemWrite(a, 1, v)`. -/
def State.writeByte (s : State) (a : Word) (v : Byte) : State := { s with mem := Memory.write s.mem a.toNat v }

/-- `MemRead(a, 2)`: low byte at `a`, high byte at `a + 1` modulo 65536. -/
def State.readWord (s : State) (a : Word) : Word := makeWord (s.readByte (a + 1)) (s.readByte a)

/-- `MemWrite(a, 2, w)`: low byte first. -/
def State.writeWord (s : State) (a w : Word) : State := (s.writeByte a (loByte w)).writeByte (a + 1) (hiByte w)

/-! ### Program counter and clocks -/

/-- PC past `n` bytes of instruction (10_state.md R30). -/
def State.advance (s : State) (n : Nat) : State := { s with pc := s.pc + BitVec.ofNat 16 n }

/-- `PC <- target`. -/
def State.jump (s : State) (target : Word) : State := { s with pc := target }

/-- `tick(m)` (00_scope.md R14). -/
def State.tick (s : State) (m : Nat) : State := { s with mclk := s.mclk + m, tclk := s.tclk + 4 * m }

/-! ### The stack (45_control_flow.md R221, R222) -/

/-- `push16(w)`. -/
def State.push16 (s : State) (w : Word) : State := ({ s with sp := s.sp - 2 }).writeWord (s.sp - 2) w

/-- The word that `pop16()` returns. -/
def State.top16 (s : State) : Word := s.readWord s.sp

/-- The state after `pop16()`. -/
def State.drop16 (s : State) : State := { s with sp := s.sp + 2 }

/-! ### Interrupts and exceptions (60_exceptions.md) -/

/-- Interrupt entry to `v`, in `IRQ_ENTRY_MCYCLES` (60_exceptions.md R312). -/
def State.enterInterrupt (s : State) (v : Word) (p : Params := Config.params) : State :=
  ((({ s with irq := none, ime := false, halt := false, stop := false }).push16 s.pc).jump v).tick p.irqEntryMcycles

/-- Return from an interrupt, `PC <- pop16(); IME <- 1` (45_control_flow.md R236, 60_exceptions.md R314). -/
def State.returnFromInterrupt (s : State) : State := { s.drop16.jump s.top16 with ime := true }

/-- `raise IllegalOpcode(bytes)` (60_exceptions.md R301): no state changes. -/
def raiseIllegalOpcode (bytes : List Byte) (_s : State) : Result := .fault (.illegalOpcode bytes)

/-- `DI` (46_singletons.md R257, R258): also clears `EI_PENDING`. -/
def State.disableInterrupts (s : State) : State := { s with ime := false, eiPending := false }

/-- `EI` under the parameter `EI_DELAY` (46_singletons.md R258). -/
def State.enableInterrupts (delay : Bool) (s : State) : State :=
  if delay then { s with eiPending := true } else { s with ime := true }

/-- The end of an executed instruction under `EI_DELAY` (46_singletons.md R258): after any instruction but EI, a pending
enable takes effect. With `EI_DELAY = false` there is nothing to do. -/
def State.settleEi (delay : Bool) (i : Instr) (s : State) : State :=
  if delay && s.eiPending && i != .ei then { s with ime := true, eiPending := false } else s

/-- `injectInterrupt(v)` (60_exceptions.md R311), a host call: nothing else changes. -/
def State.inject (s : State) (v : Word) : State := { s with irq := some v, halt := false, stop := false }

/-- The cells that `loadImage(bytes, base)` writes (20_memory.md R66), a host call. -/
def State.loadBytes (s : State) : Nat → List Byte → State
  | _, [] => s
  | pos, v :: rest => ({ s with mem := Memory.write s.mem pos v }).loadBytes (pos + 1) rest

end Sys2Proof.Machine
end

