-- ==== Sys2Proof/Machine/Operands.lean ====
section
/-! DEFINITION. Every operand form: the register operands, the pair views, the flags, the memory operand (HL), the high
page and the conditions (10_state.md R20 to R24, 30_encoding.md R76 to R79). -/

namespace Sys2Proof.Machine

/-! ### Registers (10_state.md R20 to R24) -/

/-- `r8[i]` for a register operand (30_encoding.md R76). -/
def State.reg8 (s : State) : Reg8 → Byte
  | .b => s.b | .c => s.c | .d => s.d | .e => s.e | .h => s.h | .l => s.l | .a => s.a

/-- `r8[i] <- v` for a register operand. -/
def State.setReg8 (s : State) (r : Reg8) (v : Byte) : State :=
  match r with
  | .b => { s with b := v }
  | .c => { s with c := v }
  | .d => { s with d := v }
  | .e => { s with e := v }
  | .h => { s with h := v }
  | .l => { s with l := v }
  | .a => { s with a := v }

/-- The flags of F (10_state.md R24). -/
def State.flags (s : State) : Flags where
  z := s.f.getLsbD 7
  n := s.f.getLsbD 6
  h := s.f.getLsbD 5
  c := s.f.getLsbD 4

/-- `flags(z, n, h, c)` (00_scope.md R15). -/
def State.setFlags (s : State) (fl : Flags) : State := { s with f := packFlags fl }

/-- The pair views (10_state.md R22). -/
def State.bc (s : State) : Word := makeWord s.b s.c
def State.de (s : State) : Word := makeWord s.d s.e
def State.hl (s : State) : Word := makeWord s.h s.l
def State.af (s : State) : Word := makeWord s.a s.f

/-- A write to a pair "splits into two byte writes" (10_state.md R22). -/
def State.setBc (s : State) (w : Word) : State := { s with b := hiByte w, c := loByte w }
def State.setDe (s : State) (w : Word) : State := { s with d := hiByte w, e := loByte w }
def State.setHl (s : State) (w : Word) : State := { s with h := hiByte w, l := loByte w }
/-- The low nibble of F stays 0 (10_state.md R22, R24; D25). -/
def State.setAf (s : State) (w : Word) : State := { s with a := hiByte w, f := loByte w &&& 0xF0 }

/-- `rp[i]` (30_encoding.md R77). -/
def State.pair (s : State) : Pair → Word
  | .bc => s.bc | .de => s.de | .hl => s.hl | .sp => s.sp

def State.setPair (s : State) (rr : Pair) (w : Word) : State :=
  match rr with
  | .bc => s.setBc w
  | .de => s.setDe w
  | .hl => s.setHl w
  | .sp => { s with sp := w }

/-- `rp2[i]` (30_encoding.md R78). -/
def State.stackPair (s : State) : StackPair → Word
  | .bc => s.bc | .de => s.de | .hl => s.hl | .af => s.af

def State.setStackPair (s : State) (qq : StackPair) (w : Word) : State :=
  match qq with
  | .bc => s.setBc w
  | .de => s.setDe w
  | .hl => s.setHl w
  | .af => s.setAf w

/-! ### The memory operands -/

/-- The memory operand (HL): the byte at `MEM[HL]` (30_encoding.md R76). -/
def State.readHl (s : State) : Byte := s.readByte s.hl

/-- A write to the memory operand (HL). -/
def State.writeHl (s : State) (v : Byte) : State := s.writeByte s.hl v

/-- `{page, n}`, where `page` is `HIGH_PAGE` (20_memory.md R65). -/
def highAddr (page n : Byte) : Word := makeWord page n

/-! ### Flags and conditions -/

/-- `cond(cc)` (45_control_flow.md R220). -/
def State.cond (s : State) (cc : Cond) : Bool := condHolds cc s.flags

/-- A result into A, with its flags. -/
def State.accumulate (s : State) (res : Byte × Flags) : State := ({ s with a := res.1 }).setFlags res.2

end Sys2Proof.Machine
end

