-- ==== Sys2Proof/Machine/Arith.lean ====
section
/-! DEFINITION. The arithmetic family (42_arithmetic.md): ADD, ADC, SUB, SBC on A through the datapaths `add8` and `sub8`,
and `ADD HL,rr`. -/

namespace Sys2Proof.Machine

/-! ### A with a register, with (HL) or with an immediate: the shared shape -/

/-- A result and its flags into A and F, by an instruction of `len` bytes and `m` machine cycles (rules R150 to R161). -/
def State.aluA (s : State) (res : Byte × Flags) (len m : Nat) : State := ((s.advance len).accumulate res).tick m

/-- `ADD A,r` (R150). -/
def execAddAR (r : Reg8) (s : State) (p : Params := Config.params) : Result :=
  .next (s.aluA (add8 s.a (s.reg8 r) false) 1 (p.cost (.addAR r)))

/-- `ADD A,(HL)` (R151). -/
def execAddAMemHl (s : State) (p : Params := Config.params) : Result :=
  .next (s.aluA (add8 s.a s.readHl false) 1 (p.cost .addAMemHl))

/-- `ADD A,n` (R152). -/
def execAddAN (n : Byte) (s : State) (p : Params := Config.params) : Result :=
  .next (s.aluA (add8 s.a n false) 2 (p.cost (.addAN n)))

/-- `ADC A,r` (R153). -/
def execAdcAR (r : Reg8) (s : State) (p : Params := Config.params) : Result :=
  .next (s.aluA (add8 s.a (s.reg8 r) s.flags.c) 1 (p.cost (.adcAR r)))

/-- `ADC A,(HL)` (R154). -/
def execAdcAMemHl (s : State) (p : Params := Config.params) : Result :=
  .next (s.aluA (add8 s.a s.readHl s.flags.c) 1 (p.cost .adcAMemHl))

/-- `ADC A,n` (R155). -/
def execAdcAN (n : Byte) (s : State) (p : Params := Config.params) : Result :=
  .next (s.aluA (add8 s.a n s.flags.c) 2 (p.cost (.adcAN n)))

/-- `SUB r` (R156). -/
def execSubR (r : Reg8) (s : State) (p : Params := Config.params) : Result :=
  .next (s.aluA (sub8 s.a (s.reg8 r) false) 1 (p.cost (.subR r)))

/-- `SUB (HL)` (R157). -/
def execSubMemHl (s : State) (p : Params := Config.params) : Result :=
  .next (s.aluA (sub8 s.a s.readHl false) 1 (p.cost .subMemHl))

/-- `SUB n` (R158). -/
def execSubN (n : Byte) (s : State) (p : Params := Config.params) : Result :=
  .next (s.aluA (sub8 s.a n false) 2 (p.cost (.subN n)))

/-- `SBC A,r` (R159). -/
def execSbcAR (r : Reg8) (s : State) (p : Params := Config.params) : Result :=
  .next (s.aluA (sub8 s.a (s.reg8 r) s.flags.c) 1 (p.cost (.sbcAR r)))

/-- `SBC A,(HL)` (R160). -/
def execSbcAMemHl (s : State) (p : Params := Config.params) : Result :=
  .next (s.aluA (sub8 s.a s.readHl s.flags.c) 1 (p.cost .sbcAMemHl))

/-- `SBC A,n` (R161). -/
def execSbcAN (n : Byte) (s : State) (p : Params := Config.params) : Result :=
  .next (s.aluA (sub8 s.a n s.flags.c) 2 (p.cost (.sbcAN n)))

/-! ### 16-bit addition to HL -/

/-- `ADD HL,rr` (R162): Z and N are kept, H is the carry out of bit 7. -/
def execAddHlRr (rr : Pair) (s : State) (p : Params := Config.params) : Result :=
  let res := addPair s.hl (s.pair rr) s.flags
  .next ((((s.advance 1).setHl res.1).setFlags res.2).tick (p.cost (.addHlRr rr)))

end Sys2Proof.Machine
end

