-- ==== Sys2Proof/Machine/Control.lean ====
section
/-! DEFINITION. The stack and control-flow family (45_control_flow.md). The base of a relative jump and the address a call
pushes are PC past the whole instruction (10_state.md R30). No instruction here writes a flag but `POP AF`. -/

namespace Sys2Proof.Machine

/-! ### PUSH and POP -/

/-- `PUSH qq` (R223). -/
def execPushQq (qq : StackPair) (s : State) (p : Params := Config.params) : Result :=
  .next (((s.advance 1).push16 (s.stackPair qq)).tick (p.cost (.pushQq qq)))

/-- `POP qq` (R224). -/
def execPopQq (qq : StackPair) (s : State) (p : Params := Config.params) : Result :=
  .next (((s.advance 1).drop16.setStackPair qq s.top16).tick (p.cost (.popQq qq)))

/-! ### Jumps -/

/-- `JP nn` (R225). -/
def execJpNn (nn : Word) (s : State) (p : Params := Config.params) : Result :=
  .next (((s.advance 3).jump nn).tick (p.cost (.jpNn nn)))

/-- `JP cc,nn` (R226). -/
def execJpCcNn (cc : Cond) (nn : Word) (s : State) (p : Params := Config.params) : Result :=
  .next (if s.cond cc then ((s.advance 3).jump nn).tick (p.mcycles (.jpCcNn cc nn) true)
    else (s.advance 3).tick (p.mcycles (.jpCcNn cc nn) false))

/-- `JP (HL)` (R227): the target is HL itself; no memory is read. -/
def execJpHl (s : State) (p : Params := Config.params) : Result := .next (((s.advance 1).jump s.hl).tick (p.cost .jpHl))

/-- PC displaced by `e` from the end of a two-byte instruction. -/
def State.jumpRelative (s : State) (e : Byte) : State := (s.advance 2).jump (displace (s.advance 2).pc e)

/-- `JR e` (R228). -/
def execJrE (e : Byte) (s : State) (p : Params := Config.params) : Result :=
  .next ((s.jumpRelative e).tick (p.cost (.jrE e)))

/-- `JR cc,e` (R229). -/
def execJrCcE (cc : Cond) (e : Byte) (s : State) (p : Params := Config.params) : Result :=
  .next (if s.cond cc then (s.jumpRelative e).tick (p.mcycles (.jrCcE cc e) true)
    else (s.advance 2).tick (p.mcycles (.jrCcE cc e) false))

/-! ### Calls, returns, restarts -/

/-- Past `len` bytes of instruction, push PC and go to `target`. -/
def State.callTo (s : State) (len : Nat) (target : Word) : State :=
  ((s.advance len).push16 (s.advance len).pc).jump target

/-- `CALL nn` (R230). -/
def execCallNn (nn : Word) (s : State) (p : Params := Config.params) : Result :=
  .next ((s.callTo 3 nn).tick (p.cost (.callNn nn)))

/-- `CALL cc,nn` (R231). -/
def execCallCcNn (cc : Cond) (nn : Word) (s : State) (p : Params := Config.params) : Result :=
  .next (if s.cond cc then (s.callTo 3 nn).tick (p.mcycles (.callCcNn cc nn) true)
    else (s.advance 3).tick (p.mcycles (.callCcNn cc nn) false))

/-- `PC <- pop16()`. -/
def State.return16 (s : State) : State := s.drop16.jump s.top16

/-- `RET` (R232). -/
def execRet (s : State) (p : Params := Config.params) : Result := .next (s.return16.tick (p.cost .ret))

/-- `RET cc` (R233). -/
def execRetCc (cc : Cond) (s : State) (p : Params := Config.params) : Result :=
  .next (if s.cond cc then s.return16.tick (p.mcycles (.retCc cc) true)
    else (s.advance 1).tick (p.mcycles (.retCc cc) false))

/-- `RETI` (R236). -/
def execReti (s : State) (p : Params := Config.params) : Result := .next (s.returnFromInterrupt.tick (p.cost .reti))

/-- `RST t` (R237). -/
def execRstT (t : BitVec 3) (s : State) (p : Params := Config.params) : Result :=
  .next ((s.callTo 1 (p.rstVector t)).tick (p.cost (.rstT t)))

end Sys2Proof.Machine
end

