-- ==== Sys2Proof/Machine/ExtBit.lean ====
section
/-! DEFINITION. The extended-table SWAP, BIT, RES and SET (47_extended_bit.md): 2 bytes each; `BIT b,(HL)` does
not write. -/

namespace Sys2Proof.Machine

/-- `SWAP r` (R280). -/
def execSwapR (r : Reg8) (s : State) (p : Params := Config.params) : Result :=
  let res := swap8 (s.reg8 r)
  .next ((((s.advance 2).setReg8 r res.1).setFlags res.2).tick (p.cost (.swapR r)))

/-- `SWAP (HL)` (R281). -/
def execSwapMemHl (s : State) (p : Params := Config.params) : Result :=
  let res := swap8 s.readHl
  .next ((((s.advance 2).writeHl res.1).setFlags res.2).tick (p.cost .swapMemHl))

/-- `BIT b,r` (R282). -/
def execBitR (b : BitVec 3) (r : Reg8) (s : State) (p : Params := Config.params) : Result :=
  .next (((s.advance 2).setFlags (bitFlags b (s.reg8 r) s.flags.c)).tick (p.cost (.bitR b r)))

/-- `BIT b,(HL)` (R283). -/
def execBitMemHl (b : BitVec 3) (s : State) (p : Params := Config.params) : Result :=
  .next (((s.advance 2).setFlags (bitFlags b s.readHl s.flags.c)).tick (p.cost (.bitMemHl b)))

/-- `RES b,r` (R284). -/
def execResR (b : BitVec 3) (r : Reg8) (s : State) (p : Params := Config.params) : Result :=
  .next (((s.advance 2).setReg8 r (res8 b (s.reg8 r))).tick (p.cost (.resR b r)))

/-- `RES b,(HL)` (R285). -/
def execResMemHl (b : BitVec 3) (s : State) (p : Params := Config.params) : Result :=
  .next (((s.advance 2).writeHl (res8 b s.readHl)).tick (p.cost (.resMemHl b)))

/-- `SET b,r` (R286). -/
def execSetR (b : BitVec 3) (r : Reg8) (s : State) (p : Params := Config.params) : Result :=
  .next (((s.advance 2).setReg8 r (set8 b (s.reg8 r))).tick (p.cost (.setR b r)))

/-- `SET b,(HL)` (R287). -/
def execSetMemHl (b : BitVec 3) (s : State) (p : Params := Config.params) : Result :=
  .next (((s.advance 2).writeHl (set8 b s.readHl)).tick (p.cost (.setMemHl b)))

end Sys2Proof.Machine
end

