-- ==== Sys2Proof/Machine/IncDec.lean ====
section
/-! DEFINITION. The increment and decrement family (41_incdec.md). The 8-bit forms keep the carry; the pair forms write
no flag. -/

namespace Sys2Proof.Machine

/-- A register through `f`, which is given the old value and the old carry, in `m` machine cycles. -/
def State.stepReg (s : State) (f : Byte → Bool → Byte × Flags) (r : Reg8) (m : Nat) : State :=
  let res := f (s.reg8 r) s.flags.c
  (((s.advance 1).setReg8 r res.1).setFlags res.2).tick m

/-- The memory operand (HL) through `f`: one read and one write of the same cell, in `m` machine cycles. -/
def State.stepMemHl (s : State) (f : Byte → Bool → Byte × Flags) (m : Nat) : State :=
  let res := f s.readHl s.flags.c
  (((s.advance 1).writeHl res.1).setFlags res.2).tick m

/-- `INC r` (R140). -/
def execIncR (r : Reg8) (s : State) (p : Params := Config.params) : Result :=
  .next (s.stepReg inc8 r (p.cost (.incR r)))

/-- `INC (HL)` (R141). -/
def execIncMemHl (s : State) (p : Params := Config.params) : Result := .next (s.stepMemHl inc8 (p.cost .incMemHl))

/-- `DEC r` (R142). -/
def execDecR (r : Reg8) (s : State) (p : Params := Config.params) : Result :=
  .next (s.stepReg dec8 r (p.cost (.decR r)))

/-- `DEC (HL)` (R143). -/
def execDecMemHl (s : State) (p : Params := Config.params) : Result := .next (s.stepMemHl dec8 (p.cost .decMemHl))

/-- `INC rr` (R144). -/
def execIncRr (rr : Pair) (s : State) (p : Params := Config.params) : Result :=
  .next (((s.advance 1).setPair rr (s.pair rr + 1)).tick (p.cost (.incRr rr)))

/-- `DEC rr` (R145). -/
def execDecRr (rr : Pair) (s : State) (p : Params := Config.params) : Result :=
  .next (((s.advance 1).setPair rr (s.pair rr - 1)).tick (p.cost (.decRr rr)))

end Sys2Proof.Machine
end

