-- ==== Sys2Proof/Machine/Load.lean ====
section
/-! DEFINITION. The load family (40_load.md). No load writes a flag or can fault. Each meaning starts with PC at the
opcode byte, so it advances PC by the instruction's length (00_scope.md R13; log entry 11). -/

namespace Sys2Proof.Machine

/-! ### Register and immediate loads -/

/-- `LD r,r'` (R100). -/
def execLdRR (r r' : Reg8) (s : State) (p : Params := Config.params) : Result :=
  .next (((s.advance 1).setReg8 r (s.reg8 r')).tick (p.cost (.ldRR r r')))

/-- `LD r,n` (R101). -/
def execLdRN (r : Reg8) (n : Byte) (s : State) (p : Params := Config.params) : Result :=
  .next (((s.advance 2).setReg8 r n).tick (p.cost (.ldRN r n)))

/-- `LD r,(HL)` (R102): the address is formed from the old H and L. -/
def execLdRMemHl (r : Reg8) (s : State) (p : Params := Config.params) : Result :=
  .next (((s.advance 1).setReg8 r s.readHl).tick (p.cost (.ldRMemHl r)))

/-- `LD (HL),r` (R103). -/
def execLdMemHlR (r : Reg8) (s : State) (p : Params := Config.params) : Result :=
  .next (((s.advance 1).writeHl (s.reg8 r)).tick (p.cost (.ldMemHlR r)))

/-- `LD (HL),n` (R104). -/
def execLdMemHlN (n : Byte) (s : State) (p : Params := Config.params) : Result :=
  .next (((s.advance 2).writeHl n).tick (p.cost (.ldMemHlN n)))

/-! ### A from memory and A to memory: the shared shapes -/

/-- `A <- MemRead(addr, 1)` by an instruction of `len` bytes and `m` machine cycles. -/
def State.loadA (s : State) (addr : Word) (len m : Nat) : State := ({ s.advance len with a := s.readByte addr }).tick m

/-- `MemWrite(addr, 1, A)` by an instruction of `len` bytes and `m` machine cycles. -/
def State.storeA (s : State) (addr : Word) (len m : Nat) : State := ((s.advance len).writeByte addr s.a).tick m

/-! ### Accumulator loads through BC, DE and HL -/

/-- `LD A,(BC)` (R105). -/
def execLdAMemBc (s : State) (p : Params := Config.params) : Result := .next (s.loadA s.bc 1 (p.cost .ldAMemBc))

/-- `LD A,(DE)` (R106). -/
def execLdAMemDe (s : State) (p : Params := Config.params) : Result := .next (s.loadA s.de 1 (p.cost .ldAMemDe))

/-- `LD (BC),A` (R107). -/
def execLdMemBcA (s : State) (p : Params := Config.params) : Result := .next (s.storeA s.bc 1 (p.cost .ldMemBcA))

/-- `LD (DE),A` (R108). -/
def execLdMemDeA (s : State) (p : Params := Config.params) : Result := .next (s.storeA s.de 1 (p.cost .ldMemDeA))

/-- `LD A,(HL+)` (R109). -/
def execLdAMemHlInc (s : State) (p : Params := Config.params) : Result :=
  .next ((s.loadA s.hl 1 (p.cost .ldAMemHlInc)).setHl (s.hl + 1))

/-- `LD A,(HL-)` (R110). -/
def execLdAMemHlDec (s : State) (p : Params := Config.params) : Result :=
  .next ((s.loadA s.hl 1 (p.cost .ldAMemHlDec)).setHl (s.hl - 1))

/-- `LD (HL+),A` (R111). -/
def execLdMemHlIncA (s : State) (p : Params := Config.params) : Result :=
  .next ((s.storeA s.hl 1 (p.cost .ldMemHlIncA)).setHl (s.hl + 1))

/-- `LD (HL-),A` (R112). -/
def execLdMemHlDecA (s : State) (p : Params := Config.params) : Result :=
  .next ((s.storeA s.hl 1 (p.cost .ldMemHlDecA)).setHl (s.hl - 1))

/-! ### High-page and absolute loads -/

/-- `LDH A,(n)` (R113). -/
def execLdhAMemN (n : Byte) (s : State) (p : Params := Config.params) : Result :=
  .next (s.loadA (highAddr p.highPage n) 2 (p.cost (.ldhAMemN n)))

/-- `LDH (n),A` (R114). -/
def execLdhMemNA (n : Byte) (s : State) (p : Params := Config.params) : Result :=
  .next (s.storeA (highAddr p.highPage n) 2 (p.cost (.ldhMemNA n)))

/-- `LD A,(C)` (R115). -/
def execLdAMemC (s : State) (p : Params := Config.params) : Result :=
  .next (s.loadA (highAddr p.highPage s.c) 1 (p.cost .ldAMemC))

/-- `LD (C),A` (R116). -/
def execLdMemCA (s : State) (p : Params := Config.params) : Result :=
  .next (s.storeA (highAddr p.highPage s.c) 1 (p.cost .ldMemCA))

/-- `LD A,(nn)` (R117): 3 machine cycles, the source's number (D20). -/
def execLdAMemNn (nn : Word) (s : State) (p : Params := Config.params) : Result :=
  .next (s.loadA nn 3 (p.cost (.ldAMemNn nn)))

/-- `LD (nn),A` (R118): 3 machine cycles, the source's number (D20). -/
def execLdMemNnA (nn : Word) (s : State) (p : Params := Config.params) : Result :=
  .next (s.storeA nn 3 (p.cost (.ldMemNnA nn)))

/-! ### 16-bit loads -/

/-- `LD rr,nn` (R119). -/
def execLdRrNn (rr : Pair) (nn : Word) (s : State) (p : Params := Config.params) : Result :=
  .next (((s.advance 3).setPair rr nn).tick (p.cost (.ldRrNn rr nn)))

/-- `LD (nn),SP` (R120). -/
def execLdMemNnSp (nn : Word) (s : State) (p : Params := Config.params) : Result :=
  .next (((s.advance 3).writeWord nn s.sp).tick (p.cost (.ldMemNnSp nn)))

/-- `LD SP,HL` (R121). -/
def execLdSpHl (s : State) (p : Params := Config.params) : Result :=
  .next (({ s.advance 1 with sp := s.hl }).tick (p.cost .ldSpHl))

end Sys2Proof.Machine
end

