-- ==== Sys2Proof/Machine/Logical.lean ====
section
/-! DEFINITION. The logical family (43_logical.md): AND, XOR, OR into A; CP writes the flags of SUB and leaves A. -/

namespace Sys2Proof.Machine

/-- `AND r` (R170). -/
def execAndR (r : Reg8) (s : State) (p : Params := Config.params) : Result :=
  .next (s.aluA (and8 s.a (s.reg8 r)) 1 (p.cost (.andR r)))

/-- `AND (HL)` (R171). -/
def execAndMemHl (s : State) (p : Params := Config.params) : Result :=
  .next (s.aluA (and8 s.a s.readHl) 1 (p.cost .andMemHl))

/-- `AND n` (R172). -/
def execAndN (n : Byte) (s : State) (p : Params := Config.params) : Result :=
  .next (s.aluA (and8 s.a n) 2 (p.cost (.andN n)))

/-- `XOR r` (R173). -/
def execXorR (r : Reg8) (s : State) (p : Params := Config.params) : Result :=
  .next (s.aluA (xor8 s.a (s.reg8 r)) 1 (p.cost (.xorR r)))

/-- `XOR (HL)` (R174). -/
def execXorMemHl (s : State) (p : Params := Config.params) : Result :=
  .next (s.aluA (xor8 s.a s.readHl) 1 (p.cost .xorMemHl))

/-- `XOR n` (R175). -/
def execXorN (n : Byte) (s : State) (p : Params := Config.params) : Result :=
  .next (s.aluA (xor8 s.a n) 2 (p.cost (.xorN n)))

/-- `OR r` (R176). -/
def execOrR (r : Reg8) (s : State) (p : Params := Config.params) : Result :=
  .next (s.aluA (or8 s.a (s.reg8 r)) 1 (p.cost (.orR r)))

/-- `OR (HL)` (R177). -/
def execOrMemHl (s : State) (p : Params := Config.params) : Result :=
  .next (s.aluA (or8 s.a s.readHl) 1 (p.cost .orMemHl))

/-- `OR n` (R178). -/
def execOrN (n : Byte) (s : State) (p : Params := Config.params) : Result :=
  .next (s.aluA (or8 s.a n) 2 (p.cost (.orN n)))

/-- The flags of `SUB x` without its result (R179: "discarding the numeric result"). -/
def State.compare (s : State) (x : Byte) (len m : Nat) : State :=
  ((s.advance len).setFlags (sub8 s.a x false).2).tick m

/-- `CP r` (R179). -/
def execCpR (r : Reg8) (s : State) (p : Params := Config.params) : Result :=
  .next (s.compare (s.reg8 r) 1 (p.cost (.cpR r)))

/-- `CP (HL)` (R180). -/
def execCpMemHl (s : State) (p : Params := Config.params) : Result := .next (s.compare s.readHl 1 (p.cost .cpMemHl))

/-- `CP n` (R181). -/
def execCpN (n : Byte) (s : State) (p : Params := Config.params) : Result := .next (s.compare n 2 (p.cost (.cpN n)))

end Sys2Proof.Machine
end

