-- ==== Sys2Proof/Machine/Rotate.lean ====
section
/-! DEFINITION. The rotate and shift family (44_rotate_shift.md). F becomes {0, 0, 0, ejected bit} in every form, whatever
the result (R190, 93_implementation_defined.md N3). -/

namespace Sys2Proof.Machine

/-! ### The shared shapes -/

/-- A through a rotate, in the primary table: 1 byte, `m` machine cycles. -/
def State.rotateA (s : State) (f : Byte → Byte × Bool) (m : Nat) : State :=
  let res := f s.a
  (({ s.advance 1 with a := res.1 }).setFlags (rotateFlags res.2)).tick m

/-- A register through a rotate or shift, in the extended table: 2 bytes, `m` machine cycles. -/
def State.rotateReg (s : State) (f : Byte → Byte × Bool) (r : Reg8) (m : Nat) : State :=
  let res := f (s.reg8 r)
  (((s.advance 2).setReg8 r res.1).setFlags (rotateFlags res.2)).tick m

/-- The memory operand (HL) through a rotate or shift: 2 bytes, `m` machine cycles, one read and one write. -/
def State.rotateMemHl (s : State) (f : Byte → Byte × Bool) (m : Nat) : State :=
  let res := f s.readHl
  (((s.advance 2).writeHl res.1).setFlags (rotateFlags res.2)).tick m

/-! ### Accumulator rotates -/

/-- `RLCA` (R191). -/
def execRlca (s : State) (p : Params := Config.params) : Result := .next (s.rotateA rlc8 (p.cost .rlca))

/-- `RLA` (R192). -/
def execRla (s : State) (p : Params := Config.params) : Result := .next (s.rotateA (rl8 s.flags.c) (p.cost .rla))

/-- `RRCA` (R193). -/
def execRrca (s : State) (p : Params := Config.params) : Result := .next (s.rotateA rrc8 (p.cost .rrca))

/-- `RRA` (R194). -/
def execRra (s : State) (p : Params := Config.params) : Result := .next (s.rotateA (rr8 s.flags.c) (p.cost .rra))

/-! ### Extended-table rotates and shifts -/

/-- `RLC r` (R195). -/
def execRlcR (r : Reg8) (s : State) (p : Params := Config.params) : Result :=
  .next (s.rotateReg rlc8 r (p.cost (.rlcR r)))

/-- `RLC (HL)` (R196). -/
def execRlcMemHl (s : State) (p : Params := Config.params) : Result := .next (s.rotateMemHl rlc8 (p.cost .rlcMemHl))

/-- `RRC r` (R197). -/
def execRrcR (r : Reg8) (s : State) (p : Params := Config.params) : Result :=
  .next (s.rotateReg rrc8 r (p.cost (.rrcR r)))

/-- `RRC (HL)` (R198). -/
def execRrcMemHl (s : State) (p : Params := Config.params) : Result := .next (s.rotateMemHl rrc8 (p.cost .rrcMemHl))

/-- `RL r` (R199). -/
def execRlR (r : Reg8) (s : State) (p : Params := Config.params) : Result :=
  .next (s.rotateReg (rl8 s.flags.c) r (p.cost (.rlR r)))

/-- `RL (HL)` (R200). -/
def execRlMemHl (s : State) (p : Params := Config.params) : Result :=
  .next (s.rotateMemHl (rl8 s.flags.c) (p.cost .rlMemHl))

/-- `RR r` (R201). -/
def execRrR (r : Reg8) (s : State) (p : Params := Config.params) : Result :=
  .next (s.rotateReg (rr8 s.flags.c) r (p.cost (.rrR r)))

/-- `RR (HL)` (R202). -/
def execRrMemHl (s : State) (p : Params := Config.params) : Result :=
  .next (s.rotateMemHl (rr8 s.flags.c) (p.cost .rrMemHl))

/-- `SLA r` (R203). -/
def execSlaR (r : Reg8) (s : State) (p : Params := Config.params) : Result :=
  .next (s.rotateReg sla8 r (p.cost (.slaR r)))

/-- `SLA (HL)` (R204). -/
def execSlaMemHl (s : State) (p : Params := Config.params) : Result := .next (s.rotateMemHl sla8 (p.cost .slaMemHl))

/-- `SRA r` (R205). -/
def execSraR (r : Reg8) (s : State) (p : Params := Config.params) : Result :=
  .next (s.rotateReg sra8 r (p.cost (.sraR r)))

/-- `SRA (HL)` (R206). -/
def execSraMemHl (s : State) (p : Params := Config.params) : Result := .next (s.rotateMemHl sra8 (p.cost .sraMemHl))

/-- `SRL r` (R207). -/
def execSrlR (r : Reg8) (s : State) (p : Params := Config.params) : Result :=
  .next (s.rotateReg srl8 r (p.cost (.srlR r)))

/-- `SRL (HL)` (R208). -/
def execSrlMemHl (s : State) (p : Params := Config.params) : Result := .next (s.rotateMemHl srl8 (p.cost .srlMemHl))

end Sys2Proof.Machine
end

