-- ==== Sys2Proof/Machine/PrefixTable.lean ====
section
/-! DEFINITION. The primary slot 0xCB, `PREFIX CB` (30_encoding.md R75, R89): it fetches a second byte and dispatches it in
the extended table. The decoder already answers the extended instruction for such a pair of bytes; this is the slot's own
meaning, the dispatch. -/

namespace Sys2Proof.Machine

/-- The extended opcodes 0x00 to 0x3F: the operation `y` on the operand `z` (R81). -/
def runExtendedX0 (p : Params) (op2 : Byte) (s : State) : Result :=
  match (fieldY op2).toNat, reg8Of (fieldZ op2) with
  | 0, some r => execRlcR r s p
  | 0, none => execRlcMemHl s p
  | 1, some r => execRrcR r s p
  | 1, none => execRrcMemHl s p
  | 2, some r => execRlR r s p
  | 2, none => execRlMemHl s p
  | 3, some r => execRrR r s p
  | 3, none => execRrMemHl s p
  | 4, some r => execSlaR r s p
  | 4, none => execSlaMemHl s p
  | 5, some r => execSraR r s p
  | 5, none => execSraMemHl s p
  | 6, some r => execSwapR r s p
  | 6, none => execSwapMemHl s p
  | _, some r => execSrlR r s p
  | _, none => execSrlMemHl s p

/-- The extended rule of `op2` (R83): the instruction's own meaning, which covers both fetches and their cost. -/
def runExtended (p : Params) (op2 : Byte) (s : State) : Result :=
  match (fieldX op2).toNat, reg8Of (fieldZ op2) with
  | 0, _ => runExtendedX0 p op2 s
  | 1, some r => execBitR (fieldY op2) r s p
  | 1, none => execBitMemHl (fieldY op2) s p
  | 2, some r => execResR (fieldY op2) r s p
  | 2, none => execResMemHl (fieldY op2) s p
  | _, some r => execSetR (fieldY op2) r s p
  | _, none => execSetMemHl (fieldY op2) s p

/-- `PREFIX CB` (R75, R89): an unassigned second byte raises IllegalOpcode with both bytes and neither fetch is committed
(R84; with the default `ASSIGNED` there is none), any other runs its extended rule. -/
def execPrefixCb (op2 : Byte) (s : State) (p : Params := Config.params) : Result :=
  if p.assigned .extended op2 then runExtended p op2 s else raiseIllegalOpcode [0xCB, op2] s

end Sys2Proof.Machine
end

