-- ==== Sys2Proof/Machine/Single.lean ====
section
/-! DEFINITION. The singletons (46_singletons.md): NOP, the accumulator and flag singletons, the modes and the
interrupt enable, SP-relative arithmetic, and the 11 unassigned slots. -/

namespace Sys2Proof.Machine

/-! ### NOP, the accumulator and the flags -/

/-- `NOP` (R250). -/
def execNop (s : State) (p : Params := Config.params) : Result := .next ((s.advance 1).tick (p.cost .nop))

/-- `DAA` (R251). -/
def execDaa (s : State) (p : Params := Config.params) : Result :=
  .next (((s.advance 1).accumulate (daa8 s.a s.flags)).tick (p.cost .daa))

/-- `CPL` (R252): N and H forced, Z and C kept. -/
def execCpl (s : State) (p : Params := Config.params) : Result :=
  .next (((s.advance 1).accumulate (~~~s.a, { s.flags with n := true, h := true })).tick (p.cost .cpl))

/-- `SCF` (R253). -/
def execScf (s : State) (p : Params := Config.params) : Result :=
  .next (((s.advance 1).setFlags { s.flags with n := false, h := false, c := true }).tick (p.cost .scf))

/-- `CCF` (R254). -/
def execCcf (s : State) (p : Params := Config.params) : Result :=
  .next (((s.advance 1).setFlags { s.flags with n := false, h := false, c := !s.flags.c }).tick (p.cost .ccf))

/-! ### Modes and interrupt enable -/

/-- `HALT` (R255): the latch is raised whatever IME is. -/
def execHalt (s : State) (p : Params := Config.params) : Result :=
  .next (({ s.advance 1 with halt := true }).tick (p.cost .halt))

/-- `STOP` (R256): one byte, the stop latch (D7). -/
def execStop (s : State) (p : Params := Config.params) : Result :=
  .next (({ s.advance 1 with stop := true }).tick (p.cost .stop))

/-- `DI` (R257). -/
def execDi (s : State) (p : Params := Config.params) : Result :=
  .next ((s.advance 1).disableInterrupts.tick (p.cost .di))

/-- `EI` (R258). -/
def execEi (s : State) (p : Params := Config.params) : Result :=
  .next (((s.advance 1).enableInterrupts p.eiDelay).tick (p.cost .ei))

/-! ### SP-relative arithmetic -/

/-- `ADD SP,e` (R262). -/
def execAddSpE (e : Byte) (s : State) (p : Params := Config.params) : Result :=
  let res := spAdd s.sp e s.flags
  .next ((({ s.advance 2 with sp := res.1 }).setFlags res.2).tick (p.cost (.addSpE e)))

/-- `LD HL,SP+e` (R263). -/
def execLdHlSpE (e : Byte) (s : State) (p : Params := Config.params) : Result :=
  let res := spAdd s.sp e s.flags
  .next ((((s.advance 2).setHl res.1).setFlags res.2).tick (p.cost (.ldHlSpE e)))

/-! ### The unassigned slots (R259): no state changes, not even PC or the clocks -/

/-- The unassigned byte 0xD3 (R259). -/
def execUnassignedD3 (s : State) : Result := raiseIllegalOpcode [0xD3] s

/-- The unassigned byte 0xDB (R259). -/
def execUnassignedDB (s : State) : Result := raiseIllegalOpcode [0xDB] s

/-- The unassigned byte 0xDD (R259). -/
def execUnassignedDD (s : State) : Result := raiseIllegalOpcode [0xDD] s

/-- The unassigned byte 0xE3 (R259). -/
def execUnassignedE3 (s : State) : Result := raiseIllegalOpcode [0xE3] s

/-- The unassigned byte 0xE4 (R259). -/
def execUnassignedE4 (s : State) : Result := raiseIllegalOpcode [0xE4] s

/-- The unassigned byte 0xEB (R259). -/
def execUnassignedEB (s : State) : Result := raiseIllegalOpcode [0xEB] s

/-- The unassigned byte 0xEC (R259). -/
def execUnassignedEC (s : State) : Result := raiseIllegalOpcode [0xEC] s

/-- The unassigned byte 0xED (R259). -/
def execUnassignedED (s : State) : Result := raiseIllegalOpcode [0xED] s

/-- The unassigned byte 0xF4 (R259). -/
def execUnassignedF4 (s : State) : Result := raiseIllegalOpcode [0xF4] s

/-- The unassigned byte 0xFC (R259). -/
def execUnassignedFC (s : State) : Result := raiseIllegalOpcode [0xFC] s

/-- The unassigned byte 0xFD (R259). -/
def execUnassignedFD (s : State) : Result := raiseIllegalOpcode [0xFD] s

end Sys2Proof.Machine
end

