-- ==== Sys2Proof/Machine/Fetch.lean ====
section
/-! DEFINITION. Fetching the instruction at PC, the tests a step makes before it, and the step over any way to run one
instruction (60_exceptions.md R300, R310). -/

namespace Sys2Proof.Machine

/-- The three bytes from PC on, modulo 65536 (00_scope.md R13, 20_memory.md R56). A read has no side effect (20_memory.md
R50), so reading past a short instruction is not observable. -/
def State.fetchBytes (s : State) : List Byte := [s.readByte s.pc, s.readByte (s.pc + 1), s.readByte (s.pc + 2)]

/-- The instruction at PC (30_encoding.md R89), decoded afresh from memory (20_memory.md R63). -/
def State.fetch (s : State) : Instr := instrOf (s.readByte s.pc) (s.readByte (s.pc + 1)) (s.readByte (s.pc + 2))

/-- The request that this step enters: one that is pending while IME is 1 (60_exceptions.md R300 case 1, R310). -/
def State.deliverable (s : State) : Option Word := if s.ime then s.irq else none

/-- Halted or Stopped mode (10_state.md R34). -/
def State.suspended (s : State) : Bool := s.halt || s.stop

/-- Whether the slot at PC has a handler (30_encoding.md R84, R89): the extended slot of the second byte after the prefix,
else the primary slot. -/
def State.assignedAtPc (s : State) (p : Params) : Bool :=
  if s.readByte s.pc = 0xCB then p.assigned .extended (s.readByte (s.pc + 1)) else p.assigned .primary (s.readByte s.pc)

/-- The byte or bytes that the status IllegalOpcode carries for the slot at PC (30_encoding.md R84, R89). -/
def State.slotBytes (s : State) : List Byte :=
  if s.readByte s.pc = 0xCB then [0xCB, s.readByte (s.pc + 1)] else [s.readByte s.pc]

/-- The end of an executed instruction, by `EI_DELAY` (46_singletons.md R258). -/
def settle (p : Params) (i : Instr) (res : Result) : Result :=
  match res with
  | .next t => .next (t.settleEi p.eiDelay i)
  | .fault r => .fault r
  | .refused r => .refused r

/-- `step()` with the parameters `p` (60_exceptions.md R300), where `run` runs one instruction: refuse without a session, else
enter a deliverable interrupt, else do nothing while halted or stopped, else run the instruction at PC if its slot is
assigned; the check "comes before any write of state" (30_encoding.md R89). -/
def stepBy (p : Params) (run : Instr → State → Result) (s : State) : Result :=
  if s.init then
    match s.deliverable with
    | some v => .next (s.enterInterrupt v p)
    | none =>
      if s.suspended then .next s
      else if s.assignedAtPc p then settle p s.fetch (run s.fetch s)
      else raiseIllegalOpcode s.slotBytes s
  else .refused .uninitializedSession

/-- Three bytes stored from PC on. -/
def State.placeAtPc (s : State) (b0 b1 b2 : Byte) : State :=
  ((s.writeByte s.pc b0).writeByte (s.pc + 1) b1).writeByte (s.pc + 2) b2

/-- Running mode with a session and no deliverable request, so that the next step fetches at PC. -/
def State.readyToFetch (s : State) : State :=
  { s with init := true, halt := false, stop := false, irq := if s.ime then none else s.irq }

end Sys2Proof.Machine
end

