-- ==== Sys2Proof/Machine/Step.lean ====
section
/-! DEFINITION. `step`: one transition of the core with the parameters of this model (60_exceptions.md R300). -/

namespace Sys2Proof.Machine

/-- `step()` with `Config.params`. `stepWith` (Sys2Proof/Machine/Parametric.lean) is the same for any parameters. -/
def step (s : State) : Host.Outcome State Fault Refusal := stepBy Config.params exec s

/-- `s` with the instruction of the word `w` at PC, ready to be fetched by the next step (log entry 13). It stands for the
host's `loadImage` at PC. -/
def State.withFetchWord (s : State) (nbits w : Nat) : State :=
  match tableBytes nbits w with
  | (b0, b1, b2) => s.readyToFetch.placeAtPc b0 b1 b2

end Sys2Proof.Machine
end

