-- ==== Sys2Proof/Machine/Parametric.lean ====
section
/-! DEFINITION. The step relation with its parameters as an argument (00_scope.md R8): the same meanings as `exec`, given
other parameters than `Config.params`. -/

namespace Sys2Proof.Machine

/-- `exec` with the parameters `p`. -/
def execWith (p : Params) (i : Instr) (s : State) : Result :=
  match i with
  | .nop => execNop s p
  | .ldRrNn rr nn => execLdRrNn rr nn s p
  | .ldMemBcA => execLdMemBcA s p
  | .ldMemDeA => execLdMemDeA s p
  | .ldAMemBc => execLdAMemBc s p
  | .ldAMemDe => execLdAMemDe s p
  | .ldMemHlIncA => execLdMemHlIncA s p
  | .ldMemHlDecA => execLdMemHlDecA s p
  | .ldAMemHlInc => execLdAMemHlInc s p
  | .ldAMemHlDec => execLdAMemHlDec s p
  | .incRr rr => execIncRr rr s p
  | .decRr rr => execDecRr rr s p
  | .incR r => execIncR r s p
  | .incMemHl => execIncMemHl s p
  | .decR r => execDecR r s p
  | .decMemHl => execDecMemHl s p
  | .ldRN r n => execLdRN r n s p
  | .ldMemHlN n => execLdMemHlN n s p
  | .rlca => execRlca s p
  | .rrca => execRrca s p
  | .rla => execRla s p
  | .rra => execRra s p
  | .ldMemNnSp nn => execLdMemNnSp nn s p
  | .addHlRr rr => execAddHlRr rr s p
  | .stop => execStop s p
  | .jrE e => execJrE e s p
  | .jrCcE cc e => execJrCcE cc e s p
  | .daa => execDaa s p
  | .cpl => execCpl s p
  | .scf => execScf s p
  | .ccf => execCcf s p
  | .ldRR r r' => execLdRR r r' s p
  | .ldRMemHl r => execLdRMemHl r s p
  | .ldMemHlR r => execLdMemHlR r s p
  | .halt => execHalt s p
  | .addAR r => execAddAR r s p
  | .addAMemHl => execAddAMemHl s p
  | .addAN n => execAddAN n s p
  | .adcAR r => execAdcAR r s p
  | .adcAMemHl => execAdcAMemHl s p
  | .adcAN n => execAdcAN n s p
  | .subR r => execSubR r s p
  | .subMemHl => execSubMemHl s p
  | .subN n => execSubN n s p
  | .sbcAR r => execSbcAR r s p
  | .sbcAMemHl => execSbcAMemHl s p
  | .sbcAN n => execSbcAN n s p
  | .andR r => execAndR r s p
  | .andMemHl => execAndMemHl s p
  | .andN n => execAndN n s p
  | .xorR r => execXorR r s p
  | .xorMemHl => execXorMemHl s p
  | .xorN n => execXorN n s p
  | .orR r => execOrR r s p
  | .orMemHl => execOrMemHl s p
  | .orN n => execOrN n s p
  | .cpR r => execCpR r s p
  | .cpMemHl => execCpMemHl s p
  | .cpN n => execCpN n s p
  | .retCc cc => execRetCc cc s p
  | .popQq qq => execPopQq qq s p
  | .jpCcNn cc nn => execJpCcNn cc nn s p
  | .jpNn nn => execJpNn nn s p
  | .callCcNn cc nn => execCallCcNn cc nn s p
  | .pushQq qq => execPushQq qq s p
  | .rstT t => execRstT t s p
  | .ret => execRet s p
  | .prefixCb op2 => execPrefixCb op2 s p
  | .callNn nn => execCallNn nn s p
  | .reti => execReti s p
  | .ldhMemNA n => execLdhMemNA n s p
  | .ldhAMemN n => execLdhAMemN n s p
  | .ldMemCA => execLdMemCA s p
  | .ldAMemC => execLdAMemC s p
  | .addSpE e => execAddSpE e s p
  | .jpHl => execJpHl s p
  | .ldMemNnA nn => execLdMemNnA nn s p
  | .ldAMemNn nn => execLdAMemNn nn s p
  | .di => execDi s p
  | .ei => execEi s p
  | .ldHlSpE e => execLdHlSpE e s p
  | .ldSpHl => execLdSpHl s p
  | .unassignedD3 => execUnassignedD3 s
  | .unassignedDB => execUnassignedDB s
  | .unassignedDD => execUnassignedDD s
  | .unassignedE3 => execUnassignedE3 s
  | .unassignedE4 => execUnassignedE4 s
  | .unassignedEB => execUnassignedEB s
  | .unassignedEC => execUnassignedEC s
  | .unassignedED => execUnassignedED s
  | .unassignedF4 => execUnassignedF4 s
  | .unassignedFC => execUnassignedFC s
  | .unassignedFD => execUnassignedFD s
  | .rlcR r => execRlcR r s p
  | .rlcMemHl => execRlcMemHl s p
  | .rrcR r => execRrcR r s p
  | .rrcMemHl => execRrcMemHl s p
  | .rlR r => execRlR r s p
  | .rlMemHl => execRlMemHl s p
  | .rrR r => execRrR r s p
  | .rrMemHl => execRrMemHl s p
  | .slaR r => execSlaR r s p
  | .slaMemHl => execSlaMemHl s p
  | .sraR r => execSraR r s p
  | .sraMemHl => execSraMemHl s p
  | .swapR r => execSwapR r s p
  | .swapMemHl => execSwapMemHl s p
  | .srlR r => execSrlR r s p
  | .srlMemHl => execSrlMemHl s p
  | .bitR b r => execBitR b r s p
  | .bitMemHl b => execBitMemHl b s p
  | .resR b r => execResR b r s p
  | .resMemHl b => execResMemHl b s p
  | .setR b r => execSetR b r s p
  | .setMemHl b => execSetMemHl b s p

/-- `step()` with the parameters `p` (60_exceptions.md R300). -/
def stepWith (p : Params) (s : State) : Result := stepBy p (execWith p) s

end Sys2Proof.Machine
end

