-- ==== Sys2Proof/Machine/HostOps.lean ====
section
/-! DEFINITION. The host interface (60_exceptions.md R326): the calls the driver makes between steps, what each returns,
and when each is refused. The calls take the parameters of 00_scope.md R8, by default those of this model. -/

namespace Sys2Proof.Machine

/-- The host's calls. A snapshot names the memory cells it reads beside the registers, and changes nothing. -/
inductive HostCall where
  | reset
  | loadImage (bytes : List Byte) (base : Word)
  | step
  | injectInterrupt (vector : Word)
  | snapshot (cells : List Word)
  deriving DecidableEq, Repr

/-- The status that a call returns (60_exceptions.md R300, R301). -/
inductive Status where
  | ok
  | illegalOpcode (bytes : List Byte)
  deriving DecidableEq, Repr

/-- The core together with the one fact of the session's history that decides whether a call is admitted: whether a step
has been taken since the last reset (20_memory.md R66, 60_exceptions.md R326). The spec gives the core no such state, so it
stands beside `State` (log entry 5). -/
structure Session where
  core : State
  stepped : Bool
  deriving DecidableEq, Repr

/-- What a snapshot read shows: "registers, PC, SP, clocks, latches, any memory cell" (60_exceptions.md R326), and no more:
the host cannot read IRQ back (10_state.md R35). How the reads are grouped is log entry 18. -/
structure Snapshot where
  a : Byte
  b : Byte
  c : Byte
  d : Byte
  e : Byte
  h : Byte
  l : Byte
  f : Byte
  pc : Word
  sp : Word
  mclk : Nat
  tclk : Nat
  halt : Bool
  stop : Bool
  ime : Bool
  /-- the bytes of the cells asked for, in the order asked -/
  bytes : List Byte
  deriving DecidableEq, Repr

/-- All that an admitted call gives the host: the status, the clock delta (R300: "the increase of MCLK"), and for a snapshot
read what it shows. -/
structure Reply where
  status : Status
  delta : Nat
  view : Option Snapshot
  deriving DecidableEq, Repr

/-- What an admitted call does: the session after it, which stays in the core, and the parts of its reply. -/
structure Answer where
  session : Session
  status : Status
  delta : Nat
  view : Option Snapshot := none
  deriving DecidableEq, Repr

/-- What the host gets of an answer. -/
def Answer.reply (y : Answer) : Reply := { status := y.status, delta := y.delta, view := y.view }

/-- The snapshot of the registers and of the cells asked for (60_exceptions.md R326). -/
def State.snapshot (s : State) (cells : List Word) : Snapshot where
  a := s.a
  b := s.b
  c := s.c
  d := s.d
  e := s.e
  h := s.h
  l := s.l
  f := s.f
  pc := s.pc
  sp := s.sp
  mclk := s.mclk
  tclk := s.tclk
  halt := s.halt
  stop := s.stop
  ime := s.ime
  bytes := cells.map s.readByte

/-- `loadImage(bytes, base)` (20_memory.md R66, D26). -/
def loadImage (x : Session) (bytes : List Byte) (base : Word) : Except Refusal Session :=
  if !x.core.init then .error .uninitializedSession
  else if x.stepped then .error .imageAfterStep
  else if base.toNat + bytes.length > 65536 then .error .imageTooLong
  else .ok { x with core := x.core.loadBytes base.toNat bytes }

/-- `injectInterrupt(v)` (60_exceptions.md R311). A request already pending is replaced (D10). -/
def injectInterrupt (x : Session) (v : Word) : Except Refusal Session :=
  if x.core.init then .ok { x with core := x.core.inject v } else .error .uninitializedSession

/-- `step()` as the host sees it (60_exceptions.md R300): on an unassigned slot the status IllegalOpcode, delta 0 and the
core as it was. -/
def stepCall (p : Params) (x : Session) : Except Refusal Answer :=
  match stepWith p x.core with
  | .next t => .ok { session := { core := t, stepped := true }, status := .ok, delta := t.mclk - x.core.mclk }
  | .fault (.illegalOpcode bytes) =>
    .ok { session := { x with stepped := true }, status := .illegalOpcode bytes, delta := 0 }
  | .refused r => .error r

/-- A snapshot read (60_exceptions.md R326): admitted while `INIT = 1`, with no effect. -/
def snapshotCall (x : Session) (cells : List Word) : Except Refusal Answer :=
  if x.core.init then .ok { session := x, status := .ok, delta := 0, view := some (x.core.snapshot cells) }
  else .error .uninitializedSession

/-- A call that returns nothing but its success. -/
def quietAnswer : Except Refusal Session → Except Refusal Answer
  | .ok y => .ok { session := y, status := .ok, delta := 0 }
  | .error r => .error r

/-- A host call (60_exceptions.md R326). `reset` is admitted always, the others while `INIT = 1` (R303). -/
def hostCall (x : Session) (k : HostCall) (p : Params := Config.params) : Except Refusal Answer :=
  match k with
  | .reset => quietAnswer (.ok { core := State.resetAt p.entryVector, stepped := false })
  | .loadImage bytes base => quietAnswer (loadImage x bytes base)
  | .step => stepCall p x
  | .injectInterrupt v => quietAnswer (injectInterrupt x v)
  | .snapshot cells => snapshotCall x cells

/-- A host call as the host sees it: the reply, or the refusal. -/
def hostReply (x : Session) (k : HostCall) (p : Params := Config.params) : Except Refusal Reply :=
  (hostCall x k p).map Answer.reply

/-- The calls of a driver one after the other, stopping at the first that is refused. -/
def drive (x : Session) (ks : List HostCall) (p : Params := Config.params) : Except Refusal Session :=
  match ks with
  | [] => .ok x
  | k :: ks =>
    match hostCall x k p with
    | .ok y => drive y.session ks p
    | .error r => .error r

end Sys2Proof.Machine
end

