-- ==== Sys2Proof/Safety.lean ====
section
/-! DEFINITION. The terms that claims use: the invariants of every reachable state, what an instruction leaves unchanged,
and when a run has ended. -/

namespace Sys2Proof.Safety

open Sys2Proof.Machine

/-- The invariants of every reachable state after reset (10_state.md R41), with the canonical form of memory (every cell
within its width) and with `EI_PENDING` unused while `EI_DELAY` is false (46_singletons.md R258). -/
structure Inv (s : State) : Prop where
  /-- `F[3:0] = 0` (R24) -/
  flagNibble : s.f &&& 0x0F = 0
  /-- `TCLK = 4 * MCLK` (R32) -/
  clocks : s.tclk = 4 * s.mclk
  /-- at most one of HALT and STOP is 1 (R34) -/
  oneMode : ¬ (s.halt = true ∧ s.stop = true)
  /-- the memory array is in canonical form (R37) -/
  memory : Memory.wf s.mem = true
  /-- R258: the bit exists for `EI_DELAY = true` only -/
  noDelay : Config.eiDelay = false → s.eiPending = false

/-- Every byte of memory reads as before. -/
def SameMemory (s t : State) : Prop := ∀ a : Word, t.readByte a = s.readByte a

/-- Every byte of memory reads as before except those at the addresses of `stored`. -/
def SameMemoryExcept (stored : List Word) (s t : State) : Prop :=
  ∀ a : Word, a ∉ stored → t.readByte a = s.readByte a

/-- Every 8-bit register (A, B, C, D, E, H, L) is as before except those of `written`. -/
def SameRegsExcept (written : List Reg8) (s t : State) : Prop := ∀ r : Reg8, r ∉ written → t.reg8 r = s.reg8 r

/-- The latches, the pending request, the session flag and the pending enable are as before. -/
def SameControl (s t : State) : Prop :=
  t.halt = s.halt ∧ t.stop = s.stop ∧ t.ime = s.ime ∧ t.irq = s.irq ∧ t.init = s.init ∧ t.eiPending = s.eiPending

/-- F holds the four flags given, and nothing in its low nibble. -/
def FlagsAre (t : State) (z n h c : Prop) : Prop :=
  (t.flags.z = true ↔ z) ∧ (t.flags.n = true ↔ n) ∧ (t.flags.h = true ↔ h) ∧ (t.flags.c = true ↔ c) ∧ t.f &&& 0x0F = 0

/-- PC went past `len` bytes and the clocks advanced by `m` machine cycles (00_scope.md R13, R14). -/
def Advanced (s t : State) (len m : Nat) : Prop :=
  t.pc.toNat = (s.pc.toNat + len) % 65536 ∧ t.mclk = s.mclk + m ∧ t.tclk = s.tclk + 4 * m

/-- The clocks advanced by `m` machine cycles. -/
def Ticked (s t : State) (m : Nat) : Prop := t.mclk = s.mclk + m ∧ t.tclk = s.tclk + 4 * m

/-- The bytes decode to the instruction, with nothing left over. -/
def Decodes (bytes : List Byte) (i : Instr) : Prop := decode bytes = .ok (i, [])

/-- The instructions of the 11 unassigned slots, each with its byte (46_singletons.md R259). -/
def unassignedByte : Instr → Option Byte
  | .unassignedD3 => some 0xD3
  | .unassignedDB => some 0xDB
  | .unassignedDD => some 0xDD
  | .unassignedE3 => some 0xE3
  | .unassignedE4 => some 0xE4
  | .unassignedEB => some 0xEB
  | .unassignedEC => some 0xEC
  | .unassignedED => some 0xED
  | .unassignedF4 => some 0xF4
  | .unassignedFC => some 0xFC
  | .unassignedFD => some 0xFD
  | .nop | .ldRrNn _ _ | .ldMemBcA | .ldMemDeA | .ldAMemBc | .ldAMemDe | .ldMemHlIncA | .ldMemHlDecA
  | .ldAMemHlInc | .ldAMemHlDec | .incRr _ | .decRr _ | .incR _ | .incMemHl | .decR _ | .decMemHl | .ldRN _ _
  | .ldMemHlN _ | .rlca | .rrca | .rla | .rra | .ldMemNnSp _ | .addHlRr _ | .stop | .jrE _ | .jrCcE _ _ | .daa
  | .cpl | .scf | .ccf | .ldRR _ _ | .ldRMemHl _ | .ldMemHlR _ | .halt | .addAR _ | .addAMemHl | .addAN _
  | .adcAR _ | .adcAMemHl | .adcAN _ | .subR _ | .subMemHl | .subN _ | .sbcAR _ | .sbcAMemHl | .sbcAN _
  | .andR _ | .andMemHl | .andN _ | .xorR _ | .xorMemHl | .xorN _ | .orR _ | .orMemHl | .orN _ | .cpR _
  | .cpMemHl | .cpN _ | .retCc _ | .popQq _ | .jpCcNn _ _ | .jpNn _ | .callCcNn _ _ | .pushQq _ | .rstT _ | .ret
  | .prefixCb _ | .callNn _ | .reti | .ldhMemNA _ | .ldhAMemN _ | .ldMemCA | .ldAMemC | .addSpE _ | .jpHl
  | .ldMemNnA _ | .ldAMemNn _ | .di | .ei | .ldHlSpE _ | .ldSpHl | .rlcR _ | .rlcMemHl | .rrcR _ | .rrcMemHl
  | .rlR _ | .rlMemHl | .rrR _ | .rrMemHl | .slaR _ | .slaMemHl | .sraR _ | .sraMemHl | .swapR _ | .swapMemHl
  | .srlR _ | .srlMemHl | .bitR _ _ | .bitMemHl _ | .resR _ _ | .resMemHl _ | .setR _ _ | .setMemHl _ => none

/-- Whether a conditional transfer is taken; true of every other instruction (45_control_flow.md R220). -/
def taken (i : Instr) (s : State) : Bool :=
  match i with
  | .jpCcNn cc _ => s.cond cc
  | .jrCcE cc _ => s.cond cc
  | .callCcNn cc _ => s.cond cc
  | .retCc cc => s.cond cc
  | .nop | .ldRrNn _ _ | .ldMemBcA | .ldMemDeA | .ldAMemBc | .ldAMemDe | .ldMemHlIncA | .ldMemHlDecA
  | .ldAMemHlInc | .ldAMemHlDec | .incRr _ | .decRr _ | .incR _ | .incMemHl | .decR _ | .decMemHl | .ldRN _ _
  | .ldMemHlN _ | .rlca | .rrca | .rla | .rra | .ldMemNnSp _ | .addHlRr _ | .stop | .jrE _ | .daa | .cpl | .scf
  | .ccf | .ldRR _ _ | .ldRMemHl _ | .ldMemHlR _ | .halt | .addAR _ | .addAMemHl | .addAN _ | .adcAR _
  | .adcAMemHl | .adcAN _ | .subR _ | .subMemHl | .subN _ | .sbcAR _ | .sbcAMemHl | .sbcAN _ | .andR _
  | .andMemHl | .andN _ | .xorR _ | .xorMemHl | .xorN _ | .orR _ | .orMemHl | .orN _ | .cpR _ | .cpMemHl
  | .cpN _ | .popQq _ | .jpNn _ | .pushQq _ | .rstT _ | .ret | .prefixCb _ | .callNn _ | .reti | .ldhMemNA _
  | .ldhAMemN _ | .ldMemCA | .ldAMemC | .addSpE _ | .jpHl | .ldMemNnA _ | .ldAMemNn _ | .di | .ei | .ldHlSpE _
  | .ldSpHl | .unassignedD3 | .unassignedDB | .unassignedDD | .unassignedE3 | .unassignedE4 | .unassignedEB
  | .unassignedEC | .unassignedED | .unassignedF4 | .unassignedFC | .unassignedFD | .rlcR _ | .rlcMemHl
  | .rrcR _ | .rrcMemHl | .rlR _ | .rlMemHl | .rrR _ | .rrMemHl | .slaR _ | .slaMemHl | .sraR _ | .sraMemHl
  | .swapR _ | .swapMemHl | .srlR _ | .srlMemHl | .bitR _ _ | .bitMemHl _ | .resR _ _ | .resMemHl _ | .setR _ _
  | .setMemHl _ => true

/-- A run has ended: suspended with no request pending and no further injection (60_exceptions.md R327). -/
def ended (s : State) : Bool := s.suspended && s.irq.isNone

end Sys2Proof.Safety
end

