-- ==== Sys2Proof/Certificates/Slice0/Obligations.lean ====
section
/-! DEFINITION. The statements for the provers. Values are stated in the spec's own terms (exact integers, one byte of
memory at a time), not through the model's datapaths. Each instruction's statement says that `exec` answers a next state,
what that state holds and what it leaves unchanged. -/

namespace Sys2Proof.Claims

open Sys2Proof.Machine Sys2Proof.Safety

/-- The two bytes of a 16-bit immediate, low byte first (30_encoding.md R74). -/
def nnBytes (nn : Word) : List Byte := [BitVec.ofNat 8 (nn.toNat % 256), BitVec.ofNat 8 (nn.toNat / 256)]

/-- A condition code by its flag and its sense (30_encoding.md R79, 45_control_flow.md R220). -/
def holds (s : State) : Cond → Bool
  | .nz => !s.flags.z | .z => s.flags.z | .nc => !s.flags.c | .c => s.flags.c

/-- 1 for true, 0 for false. -/
def bit (b : Bool) : Nat := if b then 1 else 0

/-- Everything but the registers of `regs`, the bytes at `stored`, F, SP, PC and the clocks is as before. -/
def Frame (regs : List Reg8) (stored : List Word) (s t : State) : Prop :=
  SameRegsExcept regs s t ∧ SameMemoryExcept stored s t ∧ SameControl s t

/-- `i` writes `v` to the register `r` and nothing else. -/
def LoadsReg (i : Instr) (s : State) (r : Reg8) (v : Byte) (len m : Nat) : Prop :=
  ∃ t, exec i s = .next t ∧ t.reg8 r = v ∧ Frame [r] [] s t ∧ t.f = s.f ∧ t.sp = s.sp ∧ Advanced s t len m

/-- `i` stores the byte `v` at `addr` and writes nothing else. -/
def StoresByte (i : Instr) (s : State) (addr : Word) (v : Byte) (len m : Nat) : Prop :=
  ∃ t, exec i s = .next t ∧ t.readByte addr = v ∧ Frame [] [addr] s t ∧ t.f = s.f ∧ t.sp = s.sp ∧ Advanced s t len m

/-- The registers of a pair. -/
def pairRegs : Pair → List Reg8
  | .bc => [.b, .c] | .de => [.d, .e] | .hl => [.h, .l] | .sp => []

/-- `i` makes the pair `rr` hold the number `w`, writes no flag and nothing else. -/
def WritesPair (i : Instr) (s : State) (rr : Pair) (w : Nat) (len m : Nat) : Prop :=
  ∃ t, exec i s = .next t ∧ (t.pair rr).toNat = w ∧ Frame (pairRegs rr) [] s t ∧ t.f = s.f ∧
    (rr ≠ .sp → t.sp = s.sp) ∧ Advanced s t len m

/-- `A <- A + x + cin` with all four flags (42_arithmetic.md R163). -/
def Adds (i : Instr) (s : State) (x : Byte) (cin : Nat) (len m : Nat) : Prop :=
  ∃ t, exec i s = .next t ∧ t.a.toNat = (s.a.toNat + x.toNat + cin) % 256 ∧
    FlagsAre t (t.a = 0) False (s.a.toNat % 16 + x.toNat % 16 + cin > 15) (s.a.toNat + x.toNat + cin > 255) ∧
    Frame [.a] [] s t ∧ t.sp = s.sp ∧ Advanced s t len m

/-- The flags of `A - x - cin` (42_arithmetic.md R164). -/
def SubFlags (s t : State) (x : Byte) (cin : Nat) : Prop :=
  FlagsAre t (((s.a.toNat : Int) - x.toNat - cin) % 256 = 0) True (s.a.toNat % 16 < x.toNat % 16 + cin)
    (s.a.toNat < x.toNat + cin)

/-- `A <- A - x - cin` with all four flags (42_arithmetic.md R164). -/
def Subtracts (i : Instr) (s : State) (x : Byte) (cin : Nat) (len m : Nat) : Prop :=
  ∃ t, exec i s = .next t ∧ (t.a.toNat : Int) = ((s.a.toNat : Int) - x.toNat - cin) % 256 ∧ SubFlags s t x cin ∧
    Frame [.a] [] s t ∧ t.sp = s.sp ∧ Advanced s t len m

/-- The flags of `A - x`, and A as before (43_logical.md R179). -/
def Compares (i : Instr) (s : State) (x : Byte) (len m : Nat) : Prop :=
  ∃ t, exec i s = .next t ∧ SubFlags s t x 0 ∧ Frame [] [] s t ∧ t.sp = s.sp ∧ Advanced s t len m

/-- `A <- v`, Z from `v`, N = C = 0 and H as given (43_logical.md). -/
def Combines (i : Instr) (s : State) (v : Byte) (h : Prop) (len m : Nat) : Prop :=
  ∃ t, exec i s = .next t ∧ t.a = v ∧ FlagsAre t (v = 0) False h False ∧ Frame [.a] [] s t ∧ t.sp = s.sp ∧
    Advanced s t len m

/-- The register `r` becomes `w`; the flags are (z, n, h, c). -/
def ChangesReg (i : Instr) (s : State) (r : Reg8) (w : Nat) (z n h c : Prop) (len m : Nat) : Prop :=
  ∃ t, exec i s = .next t ∧ (t.reg8 r).toNat = w ∧ FlagsAre t z n h c ∧ Frame [r] [] s t ∧ t.sp = s.sp ∧
    Advanced s t len m

/-- The byte at HL becomes `w`; the flags are (z, n, h, c). -/
def ChangesMemHl (i : Instr) (s : State) (w : Nat) (z n h c : Prop) (len m : Nat) : Prop :=
  ∃ t, exec i s = .next t ∧ (t.readByte s.hl).toNat = w ∧ FlagsAre t z n h c ∧ Frame [] [s.hl] s t ∧ t.sp = s.sp ∧
    Advanced s t len m

/-- `i` changes only PC (to `target`) and the clocks. -/
def JumpsTo (i : Instr) (s : State) (target : Nat) (m : Nat) : Prop :=
  ∃ t, exec i s = .next t ∧ t.pc.toNat = target ∧ Frame [] [] s t ∧ t.f = s.f ∧ t.sp = s.sp ∧ Ticked s t m

/-- `w` lies on the stack of `t` below the stack of `s`: low byte at the new SP, high byte above it. -/
def Pushed (s t : State) (w : Nat) : Prop :=
  t.sp.toNat = (s.sp.toNat + 65534) % 65536 ∧ (t.readByte t.sp).toNat = w % 256 ∧
    (t.readByte (t.sp + 1)).toNat = w / 256 ∧ SameMemoryExcept [s.sp - 2, s.sp - 2 + 1] s t

/-- `i` pushes the number `w`, goes to `target` and changes nothing else. -/
def CallsTo (i : Instr) (s : State) (w target : Nat) (m : Nat) : Prop :=
  ∃ t, exec i s = .next t ∧ Pushed s t w ∧ t.pc.toNat = target ∧ SameRegsExcept [] s t ∧ SameControl s t ∧ t.f = s.f ∧
    Ticked s t m

/-- PC and SP after a return in `s`. -/
def Returned (s t : State) : Prop :=
  t.pc.toNat = (s.readByte s.sp).toNat + 256 * (s.readByte (s.sp + 1)).toNat ∧ t.sp.toNat = (s.sp.toNat + 2) % 65536

/-- The value of a byte of two decimal digits. -/
def bcd (v : Byte) : Nat := 10 * (v.toNat / 16) + v.toNat % 16

/-- Both digits of a byte are decimal. -/
def IsBcd (v : Byte) : Prop := v.toNat / 16 ≤ 9 ∧ v.toNat % 16 ≤ 9

/-- The instructions that transfer control (45_control_flow.md). -/
def transfers : Instr → Bool
  | .jpNn _ | .jpCcNn _ _ | .jpHl | .jrE _ | .jrCcE _ _ | .callNn _ | .callCcNn _ _ | .ret | .retCc _ | .reti
  | .rstT _ => true
  | .nop | .ldRrNn _ _ | .ldMemBcA | .ldMemDeA | .ldAMemBc | .ldAMemDe | .ldMemHlIncA | .ldMemHlDecA
  | .ldAMemHlInc | .ldAMemHlDec | .incRr _ | .decRr _ | .incR _ | .incMemHl | .decR _ | .decMemHl | .ldRN _ _
  | .ldMemHlN _ | .rlca | .rrca | .rla | .rra | .ldMemNnSp _ | .addHlRr _ | .stop | .daa | .cpl | .scf | .ccf
  | .ldRR _ _ | .ldRMemHl _ | .ldMemHlR _ | .halt | .addAR _ | .addAMemHl | .addAN _ | .adcAR _ | .adcAMemHl
  | .adcAN _ | .subR _ | .subMemHl | .subN _ | .sbcAR _ | .sbcAMemHl | .sbcAN _ | .andR _ | .andMemHl | .andN _
  | .xorR _ | .xorMemHl | .xorN _ | .orR _ | .orMemHl | .orN _ | .cpR _ | .cpMemHl | .cpN _ | .popQq _
  | .pushQq _ | .prefixCb _ | .ldhMemNA _ | .ldhAMemN _ | .ldMemCA | .ldAMemC | .addSpE _ | .ldMemNnA _
  | .ldAMemNn _ | .di | .ei | .ldHlSpE _ | .ldSpHl | .unassignedD3 | .unassignedDB | .unassignedDD
  | .unassignedE3 | .unassignedE4 | .unassignedEB | .unassignedEC | .unassignedED | .unassignedF4
  | .unassignedFC | .unassignedFD | .rlcR _ | .rlcMemHl | .rrcR _ | .rrcMemHl | .rlR _ | .rlMemHl | .rrR _
  | .rrMemHl | .slaR _ | .slaMemHl | .sraR _ | .sraMemHl | .swapR _ | .swapMemHl | .srlR _ | .srlMemHl
  | .bitR _ _ | .bitMemHl _ | .resR _ _ | .resMemHl _ | .setR _ _ | .setMemHl _ => false

/-- The conditional transfers. -/
def conditional : Instr → Bool
  | .jpCcNn _ _ | .jrCcE _ _ | .callCcNn _ _ | .retCc _ => true
  | .nop | .ldRrNn _ _ | .ldMemBcA | .ldMemDeA | .ldAMemBc | .ldAMemDe | .ldMemHlIncA | .ldMemHlDecA
  | .ldAMemHlInc | .ldAMemHlDec | .incRr _ | .decRr _ | .incR _ | .incMemHl | .decR _ | .decMemHl | .ldRN _ _
  | .ldMemHlN _ | .rlca | .rrca | .rla | .rra | .ldMemNnSp _ | .addHlRr _ | .stop | .jrE _ | .daa | .cpl | .scf
  | .ccf | .ldRR _ _ | .ldRMemHl _ | .ldMemHlR _ | .halt | .addAR _ | .addAMemHl | .addAN _ | .adcAR _
  | .adcAMemHl | .adcAN _ | .subR _ | .subMemHl | .subN _ | .sbcAR _ | .sbcAMemHl | .sbcAN _ | .andR _
  | .andMemHl | .andN _ | .xorR _ | .xorMemHl | .xorN _ | .orR _ | .orMemHl | .orN _ | .cpR _ | .cpMemHl
  | .cpN _ | .popQq _ | .jpNn _ | .pushQq _ | .rstT _ | .ret | .prefixCb _ | .callNn _ | .reti | .ldhMemNA _
  | .ldhAMemN _ | .ldMemCA | .ldAMemC | .addSpE _ | .jpHl | .ldMemNnA _ | .ldAMemNn _ | .di | .ei | .ldHlSpE _
  | .ldSpHl | .unassignedD3 | .unassignedDB | .unassignedDD | .unassignedE3 | .unassignedE4 | .unassignedEB
  | .unassignedEC | .unassignedED | .unassignedF4 | .unassignedFC | .unassignedFD | .rlcR _ | .rlcMemHl
  | .rrcR _ | .rrcMemHl | .rlR _ | .rlMemHl | .rrR _ | .rrMemHl | .slaR _ | .slaMemHl | .sraR _ | .sraMemHl
  | .swapR _ | .swapMemHl | .srlR _ | .srlMemHl | .bitR _ _ | .bitMemHl _ | .resR _ _ | .resMemHl _ | .setR _ _
  | .setMemHl _ => false

/-- The instructions that write SP (10_state.md R31). -/
def writesSp : Instr → Bool
  | .ldRrNn rr _ => rr == .sp
  | .incRr rr => rr == .sp
  | .decRr rr => rr == .sp
  | .ldSpHl | .addSpE _ | .pushQq _ | .popQq _ | .callNn _ | .callCcNn _ _ | .ret | .retCc _ | .reti | .rstT _ => true
  | .nop | .ldMemBcA | .ldMemDeA | .ldAMemBc | .ldAMemDe | .ldMemHlIncA | .ldMemHlDecA | .ldAMemHlInc
  | .ldAMemHlDec | .incR _ | .incMemHl | .decR _ | .decMemHl | .ldRN _ _ | .ldMemHlN _ | .rlca | .rrca | .rla
  | .rra | .ldMemNnSp _ | .addHlRr _ | .stop | .jrE _ | .jrCcE _ _ | .daa | .cpl | .scf | .ccf | .ldRR _ _
  | .ldRMemHl _ | .ldMemHlR _ | .halt | .addAR _ | .addAMemHl | .addAN _ | .adcAR _ | .adcAMemHl | .adcAN _
  | .subR _ | .subMemHl | .subN _ | .sbcAR _ | .sbcAMemHl | .sbcAN _ | .andR _ | .andMemHl | .andN _ | .xorR _
  | .xorMemHl | .xorN _ | .orR _ | .orMemHl | .orN _ | .cpR _ | .cpMemHl | .cpN _ | .jpCcNn _ _ | .jpNn _
  | .prefixCb _ | .ldhMemNA _ | .ldhAMemN _ | .ldMemCA | .ldAMemC | .jpHl | .ldMemNnA _ | .ldAMemNn _ | .di
  | .ei | .ldHlSpE _ | .unassignedD3 | .unassignedDB | .unassignedDD | .unassignedE3 | .unassignedE4
  | .unassignedEB | .unassignedEC | .unassignedED | .unassignedF4 | .unassignedFC | .unassignedFD | .rlcR _
  | .rlcMemHl | .rrcR _ | .rrcMemHl | .rlR _ | .rlMemHl | .rrR _ | .rrMemHl | .slaR _ | .slaMemHl | .sraR _
  | .sraMemHl | .swapR _ | .swapMemHl | .srlR _ | .srlMemHl | .bitR _ _ | .bitMemHl _ | .resR _ _ | .resMemHl _
  | .setR _ _ | .setMemHl _ => false

/-- The instructions whose row of the flag table of 10_state.md R29 is "-" in every column, and `POP` of a pair other
than AF. -/
def keepsFlags : Instr → Bool
  | .popQq qq => qq != .af
  | .ldRR _ _ | .ldRN _ _ | .ldRMemHl _ | .ldMemHlR _ | .ldMemHlN _ | .ldAMemBc | .ldAMemDe | .ldMemBcA
  | .ldMemDeA | .ldAMemHlInc | .ldAMemHlDec | .ldMemHlIncA | .ldMemHlDecA | .ldhAMemN _ | .ldhMemNA _ | .ldAMemC
  | .ldMemCA | .ldAMemNn _ | .ldMemNnA _ | .ldRrNn _ _ | .ldMemNnSp _ | .ldSpHl | .pushQq _ | .jpNn _
  | .jpCcNn _ _ | .jpHl | .jrE _ | .jrCcE _ _ | .callNn _ | .callCcNn _ _ | .ret | .retCc _ | .reti | .rstT _
  | .nop | .halt | .stop | .di | .ei | .incRr _ | .decRr _ | .resR _ _ | .resMemHl _ | .setR _ _ | .setMemHl _ => true
  | .incR _ | .incMemHl | .decR _ | .decMemHl | .rlca | .rrca | .rla | .rra | .addHlRr _ | .daa | .cpl | .scf
  | .ccf | .addAR _ | .addAMemHl | .addAN _ | .adcAR _ | .adcAMemHl | .adcAN _ | .subR _ | .subMemHl | .subN _
  | .sbcAR _ | .sbcAMemHl | .sbcAN _ | .andR _ | .andMemHl | .andN _ | .xorR _ | .xorMemHl | .xorN _ | .orR _
  | .orMemHl | .orN _ | .cpR _ | .cpMemHl | .cpN _ | .prefixCb _ | .addSpE _ | .ldHlSpE _ | .unassignedD3
  | .unassignedDB | .unassignedDD | .unassignedE3 | .unassignedE4 | .unassignedEB | .unassignedEC
  | .unassignedED | .unassignedF4 | .unassignedFC | .unassignedFD | .rlcR _ | .rlcMemHl | .rrcR _ | .rrcMemHl
  | .rlR _ | .rlMemHl | .rrR _ | .rrMemHl | .slaR _ | .slaMemHl | .sraR _ | .sraMemHl | .swapR _ | .swapMemHl
  | .srlR _ | .srlMemHl | .bitR _ _ | .bitMemHl _ => false

/-- `i` adds `x` and the carry `cin` to A: `ADD` or `ADC` with a register, (HL) or an immediate (42_arithmetic.md). -/
def IsAdd (i : Instr) (s : State) (x : Byte) (cin : Nat) : Prop :=
  (∃ r, i = .addAR r ∧ x = s.reg8 r ∧ cin = 0) ∨ (i = .addAMemHl ∧ x = s.readByte s.hl ∧ cin = 0) ∨
    (i = .addAN x ∧ cin = 0) ∨ (∃ r, i = .adcAR r ∧ x = s.reg8 r ∧ cin = bit s.flags.c) ∨
    (i = .adcAMemHl ∧ x = s.readByte s.hl ∧ cin = bit s.flags.c) ∨ (i = .adcAN x ∧ cin = bit s.flags.c)

/-- `i` subtracts `x` and the carry `cin` from A: `SUB` or `SBC` with a register, (HL) or an immediate. -/
def IsSub (i : Instr) (s : State) (x : Byte) (cin : Nat) : Prop :=
  (∃ r, i = .subR r ∧ x = s.reg8 r ∧ cin = 0) ∨ (i = .subMemHl ∧ x = s.readByte s.hl ∧ cin = 0) ∨
    (i = .subN x ∧ cin = 0) ∨ (∃ r, i = .sbcAR r ∧ x = s.reg8 r ∧ cin = bit s.flags.c) ∨
    (i = .sbcAMemHl ∧ x = s.readByte s.hl ∧ cin = bit s.flags.c) ∨ (i = .sbcAN x ∧ cin = bit s.flags.c)

/-- The high byte of a word above its low byte, from `a` on. -/
def wordAt (a w : Word) : List (Word × Byte) :=
  [(a + 1, BitVec.ofNat 8 (w.toNat / 256)), (a, BitVec.ofNat 8 (w.toNat % 256))]

/-- `i` stores exactly the bytes `stored`, and the instruction fetched after it is the one those bytes, and elsewhere the
old ones, decode to. -/
def NextFetchSees (i : Instr) (s : State) (stored : List (Word × Byte)) : Prop :=
  ∃ t, exec i s = .next t ∧
    let byte := fun a => (stored.lookup a).getD (s.readByte a)
    t.fetch = instrOf (byte t.pc) (byte (t.pc + 1)) (byte (t.pc + 2))

/-- `ASSIGNED` of the slot that the first two bytes of an instruction name (30_encoding.md R84, R89). -/
def SlotAssigned (p : Params) (b0 b1 : Byte) : Prop :=
  if b0 = 0xCB then p.assigned .extended b1 = true else p.assigned .primary b0 = true

/-- A session whose next step runs the instruction at PC: no request is deliverable and no mode suspends it. -/
def Running (s : State) : Prop :=
  s.init = true ∧ (s.irq = none ∨ s.ime = false) ∧ s.halt = false ∧ s.stop = false

/-- A result with its next state changed. -/
def mapNext (f : State → State) : Result → Result
  | .next t => .next (f t)
  | .fault r => .fault r
  | .refused r => .refused r

end Sys2Proof.Claims

open Sys2Proof Sys2Proof.Machine Sys2Proof.Safety Sys2Proof.Claims

/-! ### Reset, the step and the host -/

/-- 10_state.md section 8, 70_reset_and_hazards.md section 1: what `reset()` leaves, for EVERY entry vector and all other
parameters (the spec leaves the vector open; the model's own value, log entry 1, is in no clause). IME = 0 and IRQ = none are
the spec's decision D4; that reset clears EI_PENDING stands in 46_singletons.md section 2. -/
def Obligations.ResetLeavesZerosAndEntryVector : Prop :=
  (∀ entry : Word,
    let s := State.resetAt entry
    (∀ r, s.reg8 r = 0) ∧ s.f = 0 ∧ s.sp = 0 ∧ s.pc = entry ∧ (∀ a, s.readByte a = 0) ∧ s.mclk = 0 ∧ s.tclk = 0 ∧
      s.halt = false ∧ s.stop = false ∧ s.ime = false ∧ s.irq = none ∧ s.init = true ∧ s.eiPending = false) ∧
  ∀ (p : Params) (x : Session), ∃ y, hostCall x .reset p = .ok y ∧ y.session.core = State.resetAt p.entryVector ∧
    y.status = .ok

/-- 10_state.md section 8 (the invariants of every reachable state): they hold after reset. -/
def Obligations.ResetMeetsInvariants : Prop := ∀ entry : Word, Inv (State.resetAt entry)

/-- 10_state.md section 8: "Invariants of every reachable state after reset" are kept by every step, whatever the state. -/
def Obligations.StepKeepsInvariants : Prop := ∀ s t : State, Inv s → step s = .next t → Inv t

/-- 10_state.md section 8 with 60_exceptions.md section 5: the invariants are kept by every sequence of admitted host
calls, so they hold in every state that a driver can bring the core to from a reset. -/
def Obligations.EveryDriverKeepsInvariants : Prop :=
  ∀ (ks : List HostCall) (x y : Session), Inv x.core → drive x ks = .ok y → Inv y.core

/-- 60_exceptions.md section 1, case 3: when no request is deliverable and the core is running, a step is `exec` of the
instruction that the bytes at PC decode to. With `EI_DELAY = false` nothing is added around `exec`. With any other parameters
(00_scope.md section 4) it is the same where the slot is assigned, but that `EI_DELAY = true` ends an instruction other than
EI by letting a pending enable take effect (46_singletons.md section 2). -/
def Obligations.StepRunsDecodedInstruction : Prop :=
  ∀ (s : State) (i : Instr) (rest : List Byte),
    s.init = true → (s.irq = none ∨ s.ime = false) → s.halt = false → s.stop = false →
    decode [s.readByte s.pc, s.readByte (s.pc + 1), s.readByte (s.pc + 2)] = .ok (i, rest) →
    step s = exec i s ∧
    ∀ p : Params, SlotAssigned p (s.readByte s.pc) (s.readByte (s.pc + 1)) →
      stepWith p s = mapNext (fun t =>
        if p.eiDelay = true ∧ t.eiPending = true ∧ i ≠ .ei then { t with ime := true, eiPending := false } else t)
        (execWith p i s)

/-- 60_exceptions.md section 3, interrupt entry; its rule is the spec's decision D11. A pending request with IME = 1 is
entered by the step, whatever byte is at PC and in every mode. -/
def Obligations.DeliverableRequestIsEntered : Prop :=
  ∀ (s : State) (v : Word), s.init = true → s.irq = some v → s.ime = true → Memory.wf s.mem = true →
    ∃ t, step s = .next t ∧ t.pc = v ∧ Pushed s t s.pc.toNat ∧ t.irq = none ∧ t.ime = false ∧ t.halt = false ∧
      t.stop = false ∧ t.init = s.init ∧ t.eiPending = s.eiPending ∧ SameRegsExcept [] s t ∧ t.f = s.f ∧ Ticked s t 5

/-- 60_exceptions.md section 1, case 2 (decision D9): a suspended core with nothing deliverable does not change, and the
host is answered Ok with delta 0. -/
def Obligations.SuspendedStepChangesNothing : Prop :=
  ∀ (x : Session), x.core.init = true → (x.core.irq = none ∨ x.core.ime = false) →
    (x.core.halt = true ∨ x.core.stop = true) →
    step x.core = .next x.core ∧
      hostCall x .step = .ok { session := { core := x.core, stepped := true }, status := .ok, delta := 0 }

/-- 60_exceptions.md section 2 (UninitializedSession, decision D32): while INIT = 0 every call but `reset` is refused. -/
def Obligations.UninitializedSessionIsRefused : Prop :=
  ∀ (x : Session) (k : HostCall), x.core.init = false →
    step x.core = .refused .uninitializedSession ∧
      (k ≠ .reset → hostCall x k = .error .uninitializedSession) ∧ ∃ y, hostCall x .reset = .ok y

/-- 60_exceptions.md section 3, `injectInterrupt` (decision D10): the request is stored, replacing any other, and both mode
latches are cleared whatever IME is; nothing else changes. The host cannot read the request back (10_state.md section 4): a
snapshot (60_exceptions.md section 5) shows the registers, PC, SP, the clocks, the latches and the cells asked for, changes
nothing, and gives the host the same whatever IRQ is. -/
def Obligations.InjectionStoresRequestAndWakes : Prop :=
  ∀ (x : Session) (v : Word), x.core.init = true →
    (∃ y, hostCall x (.injectInterrupt v) = .ok y ∧ y.status = .ok ∧ y.delta = 0 ∧ y.view = none ∧
      y.session.stepped = x.stepped ∧
      y.session.core = { x.core with irq := some v, halt := false, stop := false }) ∧
    ∀ cells : List Word,
      (∃ y w, hostCall x (.snapshot cells) = .ok y ∧ y.session = x ∧ y.status = .ok ∧ y.delta = 0 ∧ y.view = some w ∧
        w.a = x.core.a ∧ w.b = x.core.b ∧ w.c = x.core.c ∧ w.d = x.core.d ∧ w.e = x.core.e ∧ w.h = x.core.h ∧
        w.l = x.core.l ∧ w.f = x.core.f ∧ w.pc = x.core.pc ∧ w.sp = x.core.sp ∧ w.mclk = x.core.mclk ∧ w.tclk = x.core.tclk ∧
        w.halt = x.core.halt ∧ w.stop = x.core.stop ∧ w.ime = x.core.ime ∧
        w.bytes.length = cells.length ∧ ∀ (k : Nat) (a : Word), cells[k]? = some a → w.bytes[k]? = some (x.core.readByte a)) ∧
      ∀ q : Option Word, hostReply { x with core := { x.core with irq := q } } (.snapshot cells) =
        hostReply x (.snapshot cells)

/-- 20_memory.md section 6, `loadImage` (decision D26): the bytes land at `base` on and nothing else changes; it is refused
after a step or past the end of memory. -/
def Obligations.ImageBytesLandAtBase : Prop :=
  ∀ (x : Session) (bytes : List Byte) (base : Word), x.core.init = true → Memory.wf x.core.mem = true →
    if x.stepped then hostCall x (.loadImage bytes base) = .error .imageAfterStep
    else if base.toNat + bytes.length > 65536 then hostCall x (.loadImage bytes base) = .error .imageTooLong
    else ∃ y, hostCall x (.loadImage bytes base) = .ok y ∧ y.status = .ok ∧ y.session.stepped = false ∧
      (∀ a : Word, y.session.core.readByte a =
        if base.toNat ≤ a.toNat ∧ a.toNat < base.toNat + bytes.length then bytes.getD (a.toNat - base.toNat) 0
        else x.core.readByte a) ∧
      { y.session.core with mem := x.core.mem } = x.core

/-- 60_exceptions.md section 1: what `step()` returns to the host in each of its cases: an interrupt entry Ok and 5 (decision
D11), a suspended core Ok and 0 (D9), an unassigned byte at PC the status with the byte, delta 0 and the core as it was (D6),
any other byte Ok and the cost of the instruction. -/
def Obligations.StepReturnsStatusAndDelta : Prop :=
  ∀ x : Session, x.core.init = true →
    (∀ v, x.core.irq = some v → x.core.ime = true →
      ∃ y, hostCall x .step = .ok y ∧ y.status = .ok ∧ y.session.stepped = true ∧ y.delta = 5 ∧
        step x.core = .next y.session.core ∧ y.session.core.pc = v) ∧
    ((x.core.irq = none ∨ x.core.ime = false) → x.core.halt = true ∨ x.core.stop = true →
      hostCall x .step = .ok { session := { core := x.core, stepped := true }, status := .ok, delta := 0 }) ∧
    (Running x.core →
      match unassignedByte x.core.fetch with
      | some b => hostCall x .step =
          .ok { session := { core := x.core, stepped := true }, status := .illegalOpcode [b], delta := 0 }
      | none => ∃ y, hostCall x .step = .ok y ∧ y.status = .ok ∧ y.session.stepped = true ∧
          y.delta = mcycles x.core.fetch (taken x.core.fetch x.core) ∧ exec x.core.fetch x.core = .next y.session.core)

/-! ### Encoding -/

/-- 30_encoding.md sections 3 and 4: decoding the bytes of any well-formed instruction, with anything after them, gives the
instruction back with every operand, and leaves what follows. -/
def Obligations.DecodeUndoesEncode : Prop :=
  ∀ (i : Instr) (rest : List Byte), WellFormed i = true → decode (encode i ++ rest) = .ok (i, rest)

/-- 30_encoding.md sections 3 and 4: each byte sequence has one meaning: what decoding consumed is the instruction's own
encoding, and the instruction is well formed. -/
def Obligations.EncodeUndoesDecode : Prop :=
  ∀ (bytes rest : List Byte) (i : Instr), decode bytes = .ok (i, rest) → bytes = encode i ++ rest ∧ WellFormed i = true

/-- 30_encoding.md section 1: of every assigned slot the length is a function of the first byte alone, 1, 2 or 3, and 2 after
the prefix. The 11 unassigned bytes have no length and are left out. -/
def Obligations.LengthIsFixedByFirstByte : Prop :=
  ∀ b0 b1 b2 b1' b2' : Byte, unassignedByte (instrOf b0 b1 b2) = none →
    instrLength (instrOf b0 b1 b2) = instrLength (instrOf b0 b1' b2') ∧
      1 ≤ instrLength (instrOf b0 b1 b2) ∧ instrLength (instrOf b0 b1 b2) ≤ 3 ∧ instrLength (instrOf 0xCB b1 b2) = 2 ∧
      decode [b0, b1, b2] = .ok (instrOf b0 b1 b2, [b0, b1, b2].drop (instrLength (instrOf b0 b1 b2)))

/-- 30_encoding.md section 5: the unassigned primary slots are the 11 bytes listed, each with its own byte in the status,
and no extended slot is unassigned. -/
def Obligations.UnassignedSlotsAreTheEleven : Prop :=
  ∀ b0 b1 b2 : Byte, unassignedByte (instrOf b0 b1 b2) =
    if b0 ∈ [0xD3, 0xDB, 0xDD, 0xE3, 0xE4, 0xEB, 0xEC, 0xED, 0xF4, 0xFC, 0xFD] then some b0 else none

/-- A few words of the opcode maps (30_encoding.md sections 3 and 4). -/
def Obligations.OpcodeMapSamples : Prop :=
  Decodes [0x21, 0x34, 0x12] (.ldRrNn .hl 0x1234) ∧ Decodes [0x78] (.ldRR .a .b) ∧ Decodes [0x76] .halt ∧
    Decodes [0x20, 0xFC] (.jrCcE .nz 0xFC) ∧ Decodes [0xDC, 0x00, 0x02] (.callCcNn .c 0x0200) ∧
    Decodes [0xEF] (.rstT 5) ∧ Decodes [0xF1] (.popQq .af) ∧ Decodes [0xCB, 0x37] (.swapR .a) ∧
    Decodes [0xCB, 0x7C] (.bitR 7 .h) ∧ Decodes [0xCB, 0x86] (.resMemHl 0) ∧ Decodes [0xCB, 0xCB] (.setR 1 .e)

/-- 30_encoding.md section 2, the prefix: slot 0xCB fetches a second byte and runs the extended rule of it; PC advances by 2
in all and the cost covers both fetches. -/
def Obligations.PrefixDispatchesExtendedTable : Prop :=
  ∀ (op2 : Byte) (s : State), ∃ (i : Instr) (t : State),
    Decodes [0xCB, op2] i ∧ exec (.prefixCb op2) s = .next t ∧ exec i s = .next t ∧
      t.pc.toNat = (s.pc.toNat + 2) % 65536 ∧ s.mclk + 2 ≤ t.mclk

/-! ### Memory -/

/-- 20_memory.md section 1: byte writes touch one cell; a word is two bytes, low byte first, its second byte at the address
after, which wraps to 0x0000; no other state changes. The wrap is the spec's decision D28. -/
def Obligations.WordIsTwoBytesLowFirst : Prop :=
  ∀ (s : State) (a w b : Word), Memory.wf s.mem = true →
    (∀ v : Byte, (s.writeByte a v).readByte b = if b = a then v else s.readByte b) ∧
    (s.readWord a).toNat = (s.readByte a).toNat + 256 * (s.readByte (a + 1)).toNat ∧
    ((s.writeWord a w).readByte a).toNat = w.toNat % 256 ∧ ((s.writeWord a w).readByte (a + 1)).toNat = w.toNat / 256 ∧
    (b ≠ a → b ≠ a + 1 → (s.writeWord a w).readByte b = s.readByte b) ∧ (s.writeWord a w).readWord a = w ∧
    { s.writeWord a w with mem := s.mem } = s ∧ Memory.wf (s.writeWord a w).mem = true

/-- 20_memory.md section 5, instruction-fetch coherence: whatever form stores, and wherever it stores, the next fetch reads the
stored bytes: the byte loads, `LD (nn),SP`, the pushes (PUSH, CALL, RST), and every form that changes the byte at HL (its
new value is in its own statement). That a step runs what this fetch answers is StepRunsDecodedInstruction. -/
def Obligations.StoreIsSeenByNextFetch : Prop :=
  ∀ (s : State), Memory.wf s.mem = true →
    ((∀ r, NextFetchSees (.ldMemHlR r) s [(s.hl, s.reg8 r)]) ∧ (∀ n, NextFetchSees (.ldMemHlN n) s [(s.hl, n)]) ∧
      NextFetchSees .ldMemBcA s [(s.bc, s.a)] ∧ NextFetchSees .ldMemDeA s [(s.de, s.a)] ∧
      NextFetchSees .ldMemHlIncA s [(s.hl, s.a)] ∧ NextFetchSees .ldMemHlDecA s [(s.hl, s.a)] ∧
      (∀ n : Byte, NextFetchSees (.ldhMemNA n) s [(0xFF#8 ++ n, s.a)]) ∧
      NextFetchSees .ldMemCA s [(0xFF#8 ++ s.c, s.a)] ∧ ∀ nn, NextFetchSees (.ldMemNnA nn) s [(nn, s.a)]) ∧
    ((∀ nn, NextFetchSees (.ldMemNnSp nn) s (wordAt nn s.sp)) ∧
      (∀ qq, NextFetchSees (.pushQq qq) s (wordAt (s.sp - 2) (s.stackPair qq))) ∧
      (∀ nn, NextFetchSees (.callNn nn) s (wordAt (s.sp - 2) (s.pc + 3))) ∧
      (∀ cc nn, holds s cc = true → NextFetchSees (.callCcNn cc nn) s (wordAt (s.sp - 2) (s.pc + 3))) ∧
      ∀ t, NextFetchSees (.rstT t) s (wordAt (s.sp - 2) (s.pc + 1))) ∧
    ∀ i t, exec i s = .next t →
      (i ∈ [Instr.incMemHl, .decMemHl, .rlcMemHl, .rrcMemHl, .rlMemHl, .rrMemHl, .slaMemHl, .sraMemHl, .swapMemHl,
        .srlMemHl] ∨ (∃ b, i = .resMemHl b) ∨ ∃ b, i = .setMemHl b) →
      NextFetchSees i s [(s.hl, t.readByte s.hl)]

/-! ### Loads (40_load.md) -/

/-- R100, R101, R102, R105, R106, R117. -/
def Obligations.LoadsIntoRegister : Prop :=
  ∀ (s : State),
    (∀ r r', Decodes [0b01#2 ++ reg8Code r ++ reg8Code r'] (.ldRR r r') ∧ LoadsReg (.ldRR r r') s r (s.reg8 r') 1 1) ∧
    (∀ r n, Decodes [0b00#2 ++ reg8Code r ++ 0b110#3, n] (.ldRN r n) ∧ LoadsReg (.ldRN r n) s r n 2 2) ∧
    (∀ r, Decodes [0b01#2 ++ reg8Code r ++ 0b110#3] (.ldRMemHl r) ∧
      LoadsReg (.ldRMemHl r) s r (s.readByte s.hl) 1 2) ∧
    (Decodes [0x0A] .ldAMemBc ∧ LoadsReg .ldAMemBc s .a (s.readByte s.bc) 1 2) ∧
    (Decodes [0x1A] .ldAMemDe ∧ LoadsReg .ldAMemDe s .a (s.readByte s.de) 1 2) ∧
    ∀ nn, Decodes (0xFA :: nnBytes nn) (.ldAMemNn nn) ∧ LoadsReg (.ldAMemNn nn) s .a (s.readByte nn) 3 3

/-- R103, R104, R107, R108, R118. -/
def Obligations.StoresIntoMemory : Prop :=
  ∀ (s : State), Memory.wf s.mem = true →
    (∀ r, Decodes [0b01110#5 ++ reg8Code r] (.ldMemHlR r) ∧ StoresByte (.ldMemHlR r) s s.hl (s.reg8 r) 1 2) ∧
    (∀ n, Decodes [0x36, n] (.ldMemHlN n) ∧ StoresByte (.ldMemHlN n) s s.hl n 2 3) ∧
    (Decodes [0x02] .ldMemBcA ∧ StoresByte .ldMemBcA s s.bc s.a 1 2) ∧
    (Decodes [0x12] .ldMemDeA ∧ StoresByte .ldMemDeA s s.de s.a 1 2) ∧
    ∀ nn, Decodes (0xEA :: nnBytes nn) (.ldMemNnA nn) ∧ StoresByte (.ldMemNnA nn) s nn s.a 3 3

/-- 40_load.md section 3: the high page is 0xFF00 + n, plain memory; the value 0xFF is the spec's decision D15 and the costs
its decision D19. -/
def Obligations.HighPageIsPlainMemory : Prop :=
  ∀ (s : State) (n : Byte) (hi lo : Word), Memory.wf s.mem = true → hi.toNat = 0xFF00 + n.toNat →
    lo.toNat = 0xFF00 + s.c.toNat →
    Decodes [0xF0, n] (.ldhAMemN n) ∧ Decodes [0xE0, n] (.ldhMemNA n) ∧ Decodes [0xF2] .ldAMemC ∧
      Decodes [0xE2] .ldMemCA ∧ LoadsReg (.ldhAMemN n) s .a (s.readByte hi) 2 3 ∧
      StoresByte (.ldhMemNA n) s hi s.a 2 3 ∧
      LoadsReg .ldAMemC s .a (s.readByte lo) 1 2 ∧ StoresByte .ldMemCA s lo s.a 1 2

/-- 40_load.md section 2, the HL+ and HL- loads (general knowledge of the spec, 93_implementation_defined.md G10): the
access is at the old HL, which then counts up or down modulo 65536. -/
def Obligations.LoadsStepHl : Prop :=
  ∀ (s : State), Memory.wf s.mem = true →
    Decodes [0x2A] .ldAMemHlInc ∧ Decodes [0x3A] .ldAMemHlDec ∧ Decodes [0x22] .ldMemHlIncA ∧
    Decodes [0x32] .ldMemHlDecA ∧
    (∀ (i : Instr) (k : Nat), (i, k) ∈ [(Instr.ldAMemHlInc, 1), (Instr.ldAMemHlDec, 65535)] →
      ∃ t, exec i s = .next t ∧ t.a = s.readByte s.hl ∧ t.hl.toNat = (s.hl.toNat + k) % 65536 ∧
        Frame [.a, .h, .l] [] s t ∧ t.f = s.f ∧ t.sp = s.sp ∧ Advanced s t 1 2) ∧
    ∀ (i : Instr) (k : Nat), (i, k) ∈ [(Instr.ldMemHlIncA, 1), (Instr.ldMemHlDecA, 65535)] →
      ∃ t, exec i s = .next t ∧ t.readByte s.hl = s.a ∧ t.hl.toNat = (s.hl.toNat + k) % 65536 ∧
        Frame [.h, .l] [s.hl] s t ∧ t.f = s.f ∧ t.sp = s.sp ∧ Advanced s t 1 2

/-- R119, for every pair, SP among them. -/
def Obligations.LoadsPairImmediate : Prop :=
  ∀ (s : State) (rr : Pair) (nn : Word),
    Decodes ((0b00#2 ++ pairCode rr ++ 0b0001#4) :: nnBytes nn) (.ldRrNn rr nn) ∧
      WritesPair (.ldRrNn rr nn) s rr nn.toNat 3 3

/-- R120: the low byte of SP at `nn`, the high byte at `nn + 1` modulo 65536. -/
def Obligations.StoresStackPointer : Prop :=
  ∀ (s : State) (nn : Word), Memory.wf s.mem = true →
    Decodes (0x08 :: nnBytes nn) (.ldMemNnSp nn) ∧
    ∃ t, exec (.ldMemNnSp nn) s = .next t ∧ (t.readByte nn).toNat = s.sp.toNat % 256 ∧
      (t.readByte (nn + 1)).toNat = s.sp.toNat / 256 ∧ Frame [] [nn, nn + 1] s t ∧ t.f = s.f ∧ t.sp = s.sp ∧
      Advanced s t 3 5

/-- 40_load.md section 5, `LD SP,HL`, and 45_control_flow.md section 3, `JP (HL)` (both the spec's general knowledge, G10,
D40): SP or PC becomes HL itself; no memory is read. -/
def Obligations.HlMovesToSpOrPc : Prop :=
  ∀ s : State, Decodes [0xF9] .ldSpHl ∧ Decodes [0xE9] .jpHl ∧
    (∃ t, exec .ldSpHl s = .next t ∧ t.sp = s.hl ∧ Frame [] [] s t ∧ t.f = s.f ∧ Advanced s t 1 2) ∧
    JumpsTo .jpHl s s.hl.toNat 1

/-! ### Increment and decrement (41_incdec.md) -/

/-- 41_incdec.md, R140 and R142: C is kept; that N is 0 after INC and 1 after DEC is the spec's decision D21. -/
def Obligations.CountsRegister : Prop :=
  ∀ (s : State) (r : Reg8), let v := (s.reg8 r).toNat
    Decodes [0b00#2 ++ reg8Code r ++ 0b100#3] (.incR r) ∧ Decodes [0b00#2 ++ reg8Code r ++ 0b101#3] (.decR r) ∧
    ChangesReg (.incR r) s r ((v + 1) % 256) (v = 255) False (v % 16 = 15) (s.flags.c = true) 1 1 ∧
    ChangesReg (.decR r) s r ((v + 255) % 256) (v = 1) True (v % 16 = 0) (s.flags.c = true) 1 1

/-- 41_incdec.md, `INC (HL)`, `DEC (HL)` (cost: the spec's general knowledge, D18), `INC rr`, `DEC rr` (modulo 65536, no flag;
cost: the spec's decision D19). -/
def Obligations.CountsMemoryByteAndPair : Prop :=
  ∀ (s : State),
    Decodes [0x34] .incMemHl ∧ Decodes [0x35] .decMemHl ∧
    (Memory.wf s.mem = true → let v := (s.readByte s.hl).toNat
      ChangesMemHl .incMemHl s ((v + 1) % 256) (v = 255) False (v % 16 = 15) (s.flags.c = true) 1 3 ∧
      ChangesMemHl .decMemHl s ((v + 255) % 256) (v = 1) True (v % 16 = 0) (s.flags.c = true) 1 3) ∧
    ∀ rr : Pair,
      Decodes [0b00#2 ++ pairCode rr ++ 0b0011#4] (.incRr rr) ∧ Decodes [0b00#2 ++ pairCode rr ++ 0b1011#4] (.decRr rr) ∧
      WritesPair (.incRr rr) s rr (((s.pair rr).toNat + 1) % 65536) 1 2 ∧
      WritesPair (.decRr rr) s rr (((s.pair rr).toNat + 65535) % 65536) 1 2

/-! ### Arithmetic (42_arithmetic.md) -/

/-- 42_arithmetic.md sections 1 and 2, R150 to R155 and R163, with the old carry as an extra term in ADC; the costs are the
spec's general knowledge (D18). -/
def Obligations.AddsWithAllFlags : Prop :=
  ∀ (s : State),
    (∀ r, Decodes [0b10000#5 ++ reg8Code r] (.addAR r) ∧ Adds (.addAR r) s (s.reg8 r) 0 1 1 ∧
      Decodes [0b10001#5 ++ reg8Code r] (.adcAR r) ∧ Adds (.adcAR r) s (s.reg8 r) (bit s.flags.c) 1 1) ∧
    (Decodes [0x86] .addAMemHl ∧ Adds .addAMemHl s (s.readByte s.hl) 0 1 2) ∧
    (Decodes [0x8E] .adcAMemHl ∧ Adds .adcAMemHl s (s.readByte s.hl) (bit s.flags.c) 1 2) ∧
    ∀ n, Decodes [0xC6, n] (.addAN n) ∧ Adds (.addAN n) s n 0 2 2 ∧
      Decodes [0xCE, n] (.adcAN n) ∧ Adds (.adcAN n) s n (bit s.flags.c) 2 2

/-- 42_arithmetic.md sections 1 and 3, R156 to R161 and R164, with the old carry as an extra term in SBC; the costs are the
spec's general knowledge (D18). -/
def Obligations.SubtractsWithAllFlags : Prop :=
  ∀ (s : State),
    (∀ r, Decodes [0b10010#5 ++ reg8Code r] (.subR r) ∧ Subtracts (.subR r) s (s.reg8 r) 0 1 1 ∧
      Decodes [0b10011#5 ++ reg8Code r] (.sbcAR r) ∧ Subtracts (.sbcAR r) s (s.reg8 r) (bit s.flags.c) 1 1) ∧
    (Decodes [0x96] .subMemHl ∧ Subtracts .subMemHl s (s.readByte s.hl) 0 1 2) ∧
    (Decodes [0x9E] .sbcAMemHl ∧ Subtracts .sbcAMemHl s (s.readByte s.hl) (bit s.flags.c) 1 2) ∧
    ∀ n, Decodes [0xD6, n] (.subN n) ∧ Subtracts (.subN n) s n 0 2 2 ∧
      Decodes [0xDE, n] (.sbcAN n) ∧ Subtracts (.sbcAN n) s n (bit s.flags.c) 2 2

/-- 42_arithmetic.md section 4, `ADD HL,rr`: H is the carry out of bit 7, Z and N are kept (cost: the spec's general
knowledge); 46_singletons.md section 4, `ADD SP,e` and `LD HL,SP+e`: the signed displacement makes the result, the unsigned
byte addition H and C; that Z and N are kept there is the spec's decision D22. -/
def Obligations.SixteenBitArithmetic : Prop :=
  ∀ (s : State), let z := s.flags.z = true; let n := s.flags.n = true
    (∀ rr : Pair, Decodes [0b00#2 ++ pairCode rr ++ 0b1001#4] (.addHlRr rr) ∧
      ∃ t, exec (.addHlRr rr) s = .next t ∧ t.hl.toNat = (s.hl.toNat + (s.pair rr).toNat) % 65536 ∧
      FlagsAre t z n (s.hl.toNat % 256 + (s.pair rr).toNat % 256 > 255) (s.hl.toNat + (s.pair rr).toNat > 65535) ∧
      Frame [.h, .l] [] s t ∧ t.sp = s.sp ∧ Advanced s t 1 2) ∧
    ∀ e : Byte, let r := (((s.sp.toNat : Int) + e.toInt) % 65536).toNat
      let h := s.sp.toNat % 16 + e.toNat % 16 > 15
      let c := s.sp.toNat % 256 + e.toNat > 255
      Decodes [0xE8, e] (.addSpE e) ∧ Decodes [0xF8, e] (.ldHlSpE e) ∧
      (∃ t, exec (.addSpE e) s = .next t ∧ t.sp.toNat = r ∧ FlagsAre t z n h c ∧ Frame [] [] s t ∧ Advanced s t 2 4) ∧
      ∃ t, exec (.ldHlSpE e) s = .next t ∧ t.hl.toNat = r ∧ FlagsAre t z n h c ∧ Frame [.h, .l] [] s t ∧ t.sp = s.sp ∧
        Advanced s t 2 3

/-! ### Logical (43_logical.md) -/

/-- 43_logical.md, R170 to R181; N = 0 after AND, XOR, OR and C = 0 after AND are the spec's decision D37, the costs its
general knowledge (D18). -/
def Obligations.CombinesBitwiseAndCompares : Prop :=
  ∀ (s : State),
    (∀ r, (Decodes [0b10100#5 ++ reg8Code r] (.andR r) ∧ Combines (.andR r) s (s.a &&& s.reg8 r) True 1 1) ∧
      (Decodes [0b10101#5 ++ reg8Code r] (.xorR r) ∧ Combines (.xorR r) s (s.a ^^^ s.reg8 r) False 1 1) ∧
      (Decodes [0b10110#5 ++ reg8Code r] (.orR r) ∧ Combines (.orR r) s (s.a ||| s.reg8 r) False 1 1) ∧
      (Decodes [0b10111#5 ++ reg8Code r] (.cpR r) ∧ Compares (.cpR r) s (s.reg8 r) 1 1)) ∧
    (Decodes [0xA6] .andMemHl ∧ Combines .andMemHl s (s.a &&& s.readByte s.hl) True 1 2) ∧
    (Decodes [0xAE] .xorMemHl ∧ Combines .xorMemHl s (s.a ^^^ s.readByte s.hl) False 1 2) ∧
    (Decodes [0xB6] .orMemHl ∧ Combines .orMemHl s (s.a ||| s.readByte s.hl) False 1 2) ∧
    (Decodes [0xBE] .cpMemHl ∧ Compares .cpMemHl s (s.readByte s.hl) 1 2) ∧
    ∀ n, (Decodes [0xE6, n] (.andN n) ∧ Combines (.andN n) s (s.a &&& n) True 2 2) ∧
      (Decodes [0xEE, n] (.xorN n) ∧ Combines (.xorN n) s (s.a ^^^ n) False 2 2) ∧
      (Decodes [0xF6, n] (.orN n) ∧ Combines (.orN n) s (s.a ||| n) False 2 2) ∧
      (Decodes [0xFE, n] (.cpN n) ∧ Compares (.cpN n) s n 2 2)

/-! ### Rotate and shift (44_rotate_shift.md): every form makes F = {0, 0, 0, ejected bit} -/

/-- 44_rotate_shift.md section 1, the four accumulator forms; the cost is the spec's general knowledge. -/
def Obligations.RotatesAccumulator : Prop :=
  ∀ (s : State), let v := s.a.toNat; let cin := bit s.flags.c
    Decodes [0x07] .rlca ∧ Decodes [0x17] .rla ∧ Decodes [0x0F] .rrca ∧ Decodes [0x1F] .rra ∧
    ChangesReg .rlca s .a (2 * v % 256 + v / 128) False False False (v ≥ 128) 1 1 ∧
    ChangesReg .rla s .a (2 * v % 256 + cin) False False False (v ≥ 128) 1 1 ∧
    ChangesReg .rrca s .a (v / 2 + 128 * (v % 2)) False False False (v % 2 = 1) 1 1 ∧
    ChangesReg .rra s .a (v / 2 + 128 * cin) False False False (v % 2 = 1) 1 1

/-- 44_rotate_shift.md section 2, R195 to R202; which opcode has which direction, and the costs, are the spec's general
knowledge (D1, D18). -/
def Obligations.RotatesOperand : Prop :=
  ∀ (s : State), let cin := bit s.flags.c
    (∀ r, let v := (s.reg8 r).toNat
      (Decodes [0xCB, 0b00000#5 ++ reg8Code r] (.rlcR r) ∧
        ChangesReg (.rlcR r) s r (2 * v % 256 + v / 128) False False False (v ≥ 128) 2 2) ∧
      (Decodes [0xCB, 0b00001#5 ++ reg8Code r] (.rrcR r) ∧
        ChangesReg (.rrcR r) s r (v / 2 + 128 * (v % 2)) False False False (v % 2 = 1) 2 2) ∧
      (Decodes [0xCB, 0b00010#5 ++ reg8Code r] (.rlR r) ∧
        ChangesReg (.rlR r) s r (2 * v % 256 + cin) False False False (v ≥ 128) 2 2) ∧
      (Decodes [0xCB, 0b00011#5 ++ reg8Code r] (.rrR r) ∧
        ChangesReg (.rrR r) s r (v / 2 + 128 * cin) False False False (v % 2 = 1) 2 2)) ∧
    (Memory.wf s.mem = true → let v := (s.readByte s.hl).toNat
      (Decodes [0xCB, 0x06] .rlcMemHl ∧
        ChangesMemHl .rlcMemHl s (2 * v % 256 + v / 128) False False False (v ≥ 128) 2 4) ∧
      (Decodes [0xCB, 0x0E] .rrcMemHl ∧
        ChangesMemHl .rrcMemHl s (v / 2 + 128 * (v % 2)) False False False (v % 2 = 1) 2 4) ∧
      (Decodes [0xCB, 0x16] .rlMemHl ∧ ChangesMemHl .rlMemHl s (2 * v % 256 + cin) False False False (v ≥ 128) 2 4) ∧
      (Decodes [0xCB, 0x1E] .rrMemHl ∧ ChangesMemHl .rrMemHl s (v / 2 + 128 * cin) False False False (v % 2 = 1) 2 4))

/-- 44_rotate_shift.md section 3, the shifts (their operations are the spec's general knowledge, G10). -/
def Obligations.ShiftsOperand : Prop :=
  ∀ (s : State),
    (∀ r, Decodes [0xCB, 0b00100#5 ++ reg8Code r] (.slaR r) ∧ Decodes [0xCB, 0b00101#5 ++ reg8Code r] (.sraR r) ∧
      Decodes [0xCB, 0b00111#5 ++ reg8Code r] (.srlR r)) ∧
    Decodes [0xCB, 0x26] .slaMemHl ∧ Decodes [0xCB, 0x2E] .sraMemHl ∧ Decodes [0xCB, 0x3E] .srlMemHl ∧
    (∀ r, let v := (s.reg8 r).toNat
      ChangesReg (.slaR r) s r (2 * v % 256) False False False (v ≥ 128) 2 2 ∧
      ChangesReg (.sraR r) s r (v / 2 + 128 * (v / 128)) False False False (v % 2 = 1) 2 2 ∧
      ChangesReg (.srlR r) s r (v / 2) False False False (v % 2 = 1) 2 2) ∧
    (Memory.wf s.mem = true → let v := (s.readByte s.hl).toNat
      ChangesMemHl .slaMemHl s (2 * v % 256) False False False (v ≥ 128) 2 4 ∧
      ChangesMemHl .sraMemHl s (v / 2 + 128 * (v / 128)) False False False (v % 2 = 1) 2 4 ∧
      ChangesMemHl .srlMemHl s (v / 2) False False False (v % 2 = 1) 2 4)

/-! ### SWAP, BIT, RES, SET (47_extended_bit.md; the whole file is the spec's general knowledge, G10) -/

/-- 47_extended_bit.md, SWAP. -/
def Obligations.SwapsNibbles : Prop :=
  ∀ (s : State),
    (∀ r, Decodes [0xCB, 0b00110#5 ++ reg8Code r] (.swapR r)) ∧ Decodes [0xCB, 0x36] .swapMemHl ∧
    (∀ r, let v := (s.reg8 r).toNat; ChangesReg (.swapR r) s r (v % 16 * 16 + v / 16) (v = 0) False False False 2 2) ∧
    (Memory.wf s.mem = true → let v := (s.readByte s.hl).toNat
      ChangesMemHl .swapMemHl s (v % 16 * 16 + v / 16) (v = 0) False False False 2 4)

/-- 47_extended_bit.md, BIT: Z is the complement of the tested bit, C is kept, nothing is written but F. -/
def Obligations.TestsBit : Prop :=
  ∀ (s : State) (b : BitVec 3),
    (∀ r, Decodes [0xCB, 0b01#2 ++ b ++ reg8Code r] (.bitR b r)) ∧ Decodes [0xCB, 0b01#2 ++ b ++ 0b110#3] (.bitMemHl b) ∧
    (∀ r, ∃ t, exec (.bitR b r) s = .next t ∧
      FlagsAre t ((s.reg8 r).toNat / 2 ^ b.toNat % 2 = 0) False True (s.flags.c = true) ∧ Frame [] [] s t ∧ t.sp = s.sp ∧
      Advanced s t 2 2) ∧
    ∃ t, exec (.bitMemHl b) s = .next t ∧
      FlagsAre t ((s.readByte s.hl).toNat / 2 ^ b.toNat % 2 = 0) False True (s.flags.c = true) ∧ Frame [] [] s t ∧
      t.sp = s.sp ∧ Advanced s t 2 3

/-- 47_extended_bit.md, RES and SET: one bit of the operand, no flag. -/
def Obligations.ClearsOrSetsBit : Prop :=
  ∀ (s : State) (b : BitVec 3), Memory.wf s.mem = true →
    ((∀ r, Decodes [0xCB, 0b10#2 ++ b ++ reg8Code r] (.resR b r) ∧ Decodes [0xCB, 0b11#2 ++ b ++ reg8Code r] (.setR b r)) ∧
      Decodes [0xCB, 0b10#2 ++ b ++ 0b110#3] (.resMemHl b) ∧ Decodes [0xCB, 0b11#2 ++ b ++ 0b110#3] (.setMemHl b)) ∧
    (∀ (v w : Byte), (∀ k < 8, w.getLsbD k = if k = b.toNat then false else v.getLsbD k) →
      (∀ r, s.reg8 r = v → LoadsReg (.resR b r) s r w 2 2) ∧
      (s.readByte s.hl = v → StoresByte (.resMemHl b) s s.hl w 2 4)) ∧
    ∀ (v w : Byte), (∀ k < 8, w.getLsbD k = if k = b.toNat then true else v.getLsbD k) →
      (∀ r, s.reg8 r = v → LoadsReg (.setR b r) s r w 2 2) ∧
      (s.readByte s.hl = v → StoresByte (.setMemHl b) s s.hl w 2 4)

/-! ### Stack and control flow (45_control_flow.md) -/

/-- 45_control_flow.md sections 1 and 2, PUSH; the direction of the stack is the spec's decision D14. -/
def Obligations.PushesPair : Prop :=
  ∀ (s : State) (qq : StackPair), Memory.wf s.mem = true →
    Decodes [0b11#2 ++ stackPairCode qq ++ 0b0101#4] (.pushQq qq) ∧
    ∃ t, exec (.pushQq qq) s = .next t ∧ Pushed s t (s.stackPair qq).toNat ∧ SameRegsExcept [] s t ∧ t.f = s.f ∧
      SameControl s t ∧ Advanced s t 1 4

/-- 45_control_flow.md sections 1 and 2, POP: the high byte is the one above SP; `POP AF` drops the low nibble of F (the
spec's decision D25). -/
def Obligations.PopsPair : Prop :=
  ∀ (s : State) (qq : StackPair), let lo := s.readByte s.sp; let hi := s.readByte (s.sp + 1)
    Decodes [0b11#2 ++ stackPairCode qq ++ 0b0001#4] (.popQq qq) ∧
    ∃ t, exec (.popQq qq) s = .next t ∧ t.sp.toNat = (s.sp.toNat + 2) % 65536 ∧ Advanced s t 1 3 ∧
      match qq with
      | .bc => t.b = hi ∧ t.c = lo ∧ t.f = s.f ∧ Frame [.b, .c] [] s t
      | .de => t.d = hi ∧ t.e = lo ∧ t.f = s.f ∧ Frame [.d, .e] [] s t
      | .hl => t.h = hi ∧ t.l = lo ∧ t.f = s.f ∧ Frame [.h, .l] [] s t
      | .af => t.a = hi ∧ t.f = lo &&& 0xF0 ∧ Frame [.a] [] s t

/-- 45_control_flow.md section 1: "PUSH(pair) immediately followed by POP(same pair) restores the original pair value and
leaves SP unchanged, for any starting SP and any 16-bit value" (for AF, any value that F's empty low nibble allows). -/
def Obligations.PopUndoesPush : Prop :=
  ∀ (s t u : State) (qq : StackPair), Inv s → exec (.pushQq qq) s = .next t → exec (.popQq qq) t = .next u →
    u.stackPair qq = s.stackPair qq ∧ u.sp = s.sp ∧ SameRegsExcept [] s u ∧ u.f = s.f

/-- 45_control_flow.md section 3, R225 and R226; the costs are the spec's general knowledge (D18, D39). -/
def Obligations.JumpsAbsolute : Prop :=
  ∀ (s : State) (nn : Word),
    Decodes (0xC3 :: nnBytes nn) (.jpNn nn) ∧ JumpsTo (.jpNn nn) s nn.toNat 4 ∧
    ∀ cc, Decodes ((0b110#3 ++ condCode cc ++ 0b010#3) :: nnBytes nn) (.jpCcNn cc nn) ∧
      if holds s cc then JumpsTo (.jpCcNn cc nn) s nn.toNat 4
      else JumpsTo (.jpCcNn cc nn) s ((s.pc.toNat + 3) % 65536) 3

/-- 45_control_flow.md section 3, R228 and R229: the displacement is signed and added to PC after the instruction; the costs
are the spec's general knowledge (D18, D39). -/
def Obligations.JumpsRelative : Prop :=
  ∀ (s : State) (e : Byte), let target := (((s.pc.toNat : Int) + 2 + e.toInt) % 65536).toNat
    Decodes [0x18, e] (.jrE e) ∧ JumpsTo (.jrE e) s target 3 ∧
    ∀ cc, Decodes [0b001#3 ++ condCode cc ++ 0b000#3, e] (.jrCcE cc e) ∧
      if holds s cc then JumpsTo (.jrCcE cc e) s target 3
      else JumpsTo (.jrCcE cc e) s ((s.pc.toNat + 2) % 65536) 2

/-- 45_control_flow.md section 4, CALL and RST: the address of the instruction after it is pushed (the stack's direction is
the spec's decision D14) and PC goes to `nn`, or to 8 * t (decision D16); a call not taken only advances. -/
def Obligations.CallsPushReturnAddress : Prop :=
  ∀ (s : State), Memory.wf s.mem = true →
    (∀ nn : Word, let back := (s.pc.toNat + 3) % 65536
      Decodes (0xCD :: nnBytes nn) (.callNn nn) ∧ CallsTo (.callNn nn) s back nn.toNat 6 ∧
      ∀ cc, Decodes ((0b110#3 ++ condCode cc ++ 0b100#3) :: nnBytes nn) (.callCcNn cc nn) ∧
        if holds s cc then CallsTo (.callCcNn cc nn) s back nn.toNat 6 else JumpsTo (.callCcNn cc nn) s back 3) ∧
    ∀ t : BitVec 3, Decodes [0b11#2 ++ t ++ 0b111#3] (.rstT t) ∧ CallsTo (.rstT t) s ((s.pc.toNat + 1) % 65536) (8 * t.toNat) 4

/-- 45_control_flow.md section 4, RET, RET cc and RETI; RETI also sets IME at once (the spec's decision D13). -/
def Obligations.ReturnsPopIntoPc : Prop :=
  ∀ (s : State),
    Decodes [0xC9] .ret ∧ Decodes [0xD9] .reti ∧ (∀ cc, Decodes [0b110#3 ++ condCode cc ++ 0b000#3] (.retCc cc)) ∧
    (∃ t, exec .ret s = .next t ∧ Returned s t ∧ Frame [] [] s t ∧ t.f = s.f ∧ Ticked s t 4) ∧
    (∃ t, exec .reti s = .next t ∧ Returned s t ∧ t.ime = true ∧ Frame [] [] { s with ime := true } t ∧ t.f = s.f ∧
      Ticked s t 4) ∧
    ∀ cc, if holds s cc
      then ∃ t, exec (.retCc cc) s = .next t ∧ Returned s t ∧ Frame [] [] s t ∧ t.f = s.f ∧ Ticked s t 5
      else JumpsTo (.retCc cc) s ((s.pc.toNat + 1) % 65536) 2

/-- 45_control_flow.md section 4: "CALL `addr` followed by RET returns PC to the instruction immediately after the CALL,
and restores SP to its pre-CALL value", whatever address is called and wherever the stack lies. -/
def Obligations.ReturnUndoesCall : Prop :=
  ∀ (s t u : State) (nn : Word), Memory.wf s.mem = true → exec (.callNn nn) s = .next t → exec .ret t = .next u →
    u.pc = s.pc + 3 ∧ u.sp = s.sp ∧ SameRegsExcept [] s u ∧ u.f = s.f

/-- 60_exceptions.md section 3, return and nesting: entering a request and returning with RETI at once brings PC and SP
back, with IME = 1 and the request gone. -/
def Obligations.RetiUndoesInterruptEntry : Prop :=
  ∀ (s t u : State) (v : Word), s.init = true → s.ime = true → s.irq = some v → Memory.wf s.mem = true →
    step s = .next t → exec .reti t = .next u →
    u.pc = s.pc ∧ u.sp = s.sp ∧ u.ime = true ∧ u.irq = none ∧ SameRegsExcept [] s u ∧ u.f = s.f

/-! ### Singletons (46_singletons.md) -/

/-- 46_singletons.md section 1, R250; the cost is the spec's general knowledge (D18). -/
def Obligations.NopOnlyAdvances : Prop :=
  ∀ s : State, Decodes [0x00] .nop ∧
    ∃ t, exec .nop s = .next t ∧ Frame [] [] s t ∧ t.f = s.f ∧ t.sp = s.sp ∧ Advanced s t 1 1

/-- 46_singletons.md section 1, DAA: the algorithm on every input, in exact integers; beyond the source's outline it is the
spec's decision D24. -/
def Obligations.DaaFollowsAlgorithm : Prop :=
  ∀ (s : State), let a := s.a.toNat
    Decodes [0x27] .daa ∧ ∃ t, exec .daa s = .next t ∧ Frame [.a] [] s t ∧ t.sp = s.sp ∧ Advanced s t 1 1 ∧
      if s.flags.n = false then
        let six := s.flags.h = true ∨ a % 16 > 9
        let sixty := s.flags.c = true ∨ a > 0x99
        (six → sixty → t.a.toNat = (a + 0x66) % 256) ∧ (six → ¬ sixty → t.a.toNat = (a + 0x06) % 256) ∧
          (¬ six → sixty → t.a.toNat = (a + 0x60) % 256) ∧ (¬ six → ¬ sixty → t.a = s.a) ∧
          FlagsAre t (t.a = 0) False False sixty
      else
        (t.a.toNat : Int) = ((a : Int) - 6 * bit s.flags.h - 0x60 * bit s.flags.c) % 256 ∧
          FlagsAre t (t.a = 0) True False (s.flags.c = true)

/-- 42_arithmetic.md section 5 ("Decimal arithmetic is by `DAA` after an 8-bit add or subtract") with the DAA algorithm
(decision D24): on two-digit decimal operands ADD or ADC and then DAA is decimal addition, and SUB or SBC and then DAA is
decimal subtraction, in every operand form, with C the decimal carry or borrow. -/
def Obligations.DaaMakesDecimalArithmetic : Prop :=
  ∀ (s t u : State) (i : Instr) (x : Byte) (cin : Nat), IsBcd s.a → IsBcd x → exec i s = .next t →
    exec .daa t = .next u →
    (IsAdd i s x cin → IsBcd u.a ∧ bcd u.a = (bcd s.a + bcd x + cin) % 100 ∧
      (u.flags.c = true ↔ bcd s.a + bcd x + cin ≥ 100)) ∧
    (IsSub i s x cin → IsBcd u.a ∧ (bcd u.a : Int) = ((bcd s.a : Int) - bcd x - cin) % 100 ∧
      (u.flags.c = true ↔ bcd s.a < bcd x + cin))

/-- 46_singletons.md section 1, CPL, SCF and CCF; that the unnamed flags are kept is the spec's decision D42. -/
def Obligations.FlagSingletons : Prop :=
  ∀ (s : State), let z := s.flags.z = true; let c := s.flags.c = true
    Decodes [0x2F] .cpl ∧ Decodes [0x37] .scf ∧ Decodes [0x3F] .ccf ∧
    ChangesReg .cpl s .a (255 - s.a.toNat) z True True c 1 1 ∧
    (∃ t, exec .scf s = .next t ∧ FlagsAre t z False False True ∧ Frame [] [] s t ∧ t.sp = s.sp ∧ Advanced s t 1 1) ∧
    ∃ t, exec .ccf s = .next t ∧ FlagsAre t z False False (¬ c) ∧ Frame [] [] s t ∧ t.sp = s.sp ∧ Advanced s t 1 1

/-- 46_singletons.md section 2, HALT, STOP, DI and EI: one latch each, PC past the one byte, 1 cycle. STOP's one byte is the
spec's decision D7, EI's immediate effect its decision D13; with the parameter `EI_DELAY = true` EI leaves IME and sets
EI_PENDING. -/
def Obligations.LatchSingletons : Prop :=
  ∀ (s : State),
    Decodes [0x76] .halt ∧ Decodes [0x10] .stop ∧ Decodes [0xF3] .di ∧ Decodes [0xFB] .ei ∧
    (∃ t, exec .halt s = .next t ∧ t.halt = true ∧ Frame [] [] { s with halt := true } t ∧ t.f = s.f ∧ t.sp = s.sp ∧
      Advanced s t 1 1) ∧
    (∃ t, exec .stop s = .next t ∧ t.stop = true ∧ Frame [] [] { s with stop := true } t ∧ t.f = s.f ∧ t.sp = s.sp ∧
      Advanced s t 1 1) ∧
    (∃ t, exec .di s = .next t ∧ t.ime = false ∧ Frame [] [] { s with ime := false, eiPending := false } t ∧ t.f = s.f ∧
      t.sp = s.sp ∧ Advanced s t 1 1) ∧
    (∃ t, exec .ei s = .next t ∧ t.ime = true ∧ Frame [] [] { s with ime := true } t ∧ t.f = s.f ∧ t.sp = s.sp ∧
      Advanced s t 1 1) ∧
    ∀ p : Params, p.eiDelay = true →
      ∃ t, execWith p .ei s = .next t ∧ t.eiPending = true ∧ Frame [] [] { s with eiPending := true } t ∧ t.f = s.f ∧
        t.sp = s.sp ∧ Advanced s t 1 (p.mcycles .ei true)

/-- 46_singletons.md section 3, 30_encoding.md section 5, 60_exceptions.md sections 1 and 2: each of the 11 unassigned bytes
decodes by itself (that the decoder consumes its one byte is log entry 17), and running it stops with the status
IllegalOpcode carrying that byte, in every state. A step at it, or at any slot outside a narrowed `ASSIGNED`, stops with the
byte (or the prefix and the second byte: the spec's decision D35); the host is answered that status and delta 0, and the core
is as it was, PC, clocks, latches and request included (the spec's decision D6), so that the next step raises again. -/
def Obligations.UnassignedByteFaults : Prop :=
  (∀ (i : Instr) (b : Byte), unassignedByte i = some b →
    Decodes [b] i ∧ (∀ s, exec i s = .fault (.illegalOpcode [b])) ∧
    ∀ x : Session, Running x.core → x.core.readByte x.core.pc = b → step x.core = .fault (.illegalOpcode [b]) ∧
      hostCall x .step = .ok { session := { core := x.core, stepped := true }, status := .illegalOpcode [b], delta := 0 }) ∧
  ∀ (p : Params) (x : Session), Running x.core →
    let b0 := x.core.readByte x.core.pc
    let b1 := x.core.readByte (x.core.pc + 1)
    let bytes := if b0 = 0xCB then [b0, b1] else [b0]
    ¬ SlotAssigned p b0 b1 → stepWith p x.core = .fault (.illegalOpcode bytes) ∧
      hostCall x .step p =
        .ok { session := { core := x.core, stepped := true }, status := .illegalOpcode bytes, delta := 0 }

/-! ### Rules of the whole machine -/

/-- 60_exceptions.md section 2 (no other synchronous exception), 20_memory.md section 1 ("No bounds failures"): every
instruction but the 11 unassigned slots completes in every state. -/
def Obligations.OnlyUnassignedSlotsStop : Prop :=
  ∀ (i : Instr) (s : State), unassignedByte i = none → ∃ t, exec i s = .next t

/-- 70_reset_and_hazards.md section 4: every instruction advances both clocks by exactly its documented cost (the costs the
source does not give are the spec's decision D18), and with any other `MCYCLES` (00_scope.md section 4) by what that says. -/
def Obligations.EveryInstructionTicksItsCost : Prop :=
  (∀ (i : Instr) (s t : State), exec i s = .next t → Ticked s t (mcycles i (taken i s))) ∧
    ∀ (p : Params) (i : Instr) (s t : State), WellFormed i = true → execWith p i s = .next t →
      Ticked s t (p.mcycles i (taken i s))

/-- 45_control_flow.md, opening: a conditional transfer that is not taken costs strictly less than when taken, and PC then
advances by the length alone (the costs are the spec's decision D39). -/
def Obligations.NotTakenIsCheaper : Prop :=
  ∀ (i : Instr) (s t s' t' : State), conditional i = true → exec i s = .next t → exec i s' = .next t' →
    taken i s = true → taken i s' = false →
    t'.mclk - s'.mclk < t.mclk - s.mclk ∧ t'.pc = s'.pc + BitVec.ofNat 16 (instrLength i)

/-- 10_state.md section 3: PC moves past the instruction and nowhere else but for the control-flow instructions; "SP is
written by" the instructions listed there and by no other. -/
def Obligations.PcAndSpHaveFewWriters : Prop :=
  ∀ (i : Instr) (s t : State), exec i s = .next t →
    (transfers i = false → t.pc = s.pc + BitVec.ofNat 16 (instrLength i)) ∧ (writesSp i = false → t.sp = s.sp)

/-- 10_state.md section 4: the latches are mutated only by HALT, STOP, EI, DI and RETI, and by no instruction otherwise; the
session flag and the request by none. -/
def Obligations.LatchesHaveFewWriters : Prop :=
  ∀ (i : Instr) (s t : State), exec i s = .next t →
    (i ≠ .halt → t.halt = s.halt) ∧ (i ≠ .stop → t.stop = s.stop) ∧
    (i ≠ .ei → i ≠ .di → i ≠ .reti → t.ime = s.ime) ∧ t.irq = s.irq ∧ t.init = s.init

/-- 10_state.md section 2, the flag table: the instructions of its first row leave all of F alone, and so does POP of a pair
other than AF. -/
def Obligations.FlagTableFirstRow : Prop :=
  ∀ (i : Instr) (s t : State), exec i s = .next t → keepsFlags i = true → t.f = s.f

/-- 10_state.md sections 4 and 5: no instruction reads the clocks or the pending request; with other values of them it does
the same and moves the clocks by as much. -/
def Obligations.InstructionsIgnoreClocksAndRequest : Prop :=
  ∀ (i : Instr) (s : State) (dm dt : Nat) (irq : Option Word),
    exec i { s with mclk := s.mclk + dm, tclk := s.tclk + dt, irq := irq } =
      mapNext (fun t => { t with mclk := t.mclk + dm, tclk := t.tclk + dt, irq := irq }) (exec i s)
end

