-- ==== Sys2Proof/Laws/State.lean ====
section
/-! SUPPORT. One lemma per field per update: what each named operation leaves in each field of the state. Proofs cite
these (simp knows them) and never unfold a record update. -/

namespace Sys2Proof.Machine

/-! ### `advance` -/

@[simp] theorem State.advance_a (s : State) (n : Nat) : (s.advance n).a = s.a := rfl
@[simp] theorem State.advance_b (s : State) (n : Nat) : (s.advance n).b = s.b := rfl
@[simp] theorem State.advance_c (s : State) (n : Nat) : (s.advance n).c = s.c := rfl
@[simp] theorem State.advance_d (s : State) (n : Nat) : (s.advance n).d = s.d := rfl
@[simp] theorem State.advance_e (s : State) (n : Nat) : (s.advance n).e = s.e := rfl
@[simp] theorem State.advance_h (s : State) (n : Nat) : (s.advance n).h = s.h := rfl
@[simp] theorem State.advance_l (s : State) (n : Nat) : (s.advance n).l = s.l := rfl
@[simp] theorem State.advance_f (s : State) (n : Nat) : (s.advance n).f = s.f := rfl
@[simp] theorem State.advance_pc (s : State) (n : Nat) : (s.advance n).pc = s.pc + BitVec.ofNat 16 n := rfl
@[simp] theorem State.advance_sp (s : State) (n : Nat) : (s.advance n).sp = s.sp := rfl
@[simp] theorem State.advance_mclk (s : State) (n : Nat) : (s.advance n).mclk = s.mclk := rfl
@[simp] theorem State.advance_tclk (s : State) (n : Nat) : (s.advance n).tclk = s.tclk := rfl
@[simp] theorem State.advance_halt (s : State) (n : Nat) : (s.advance n).halt = s.halt := rfl
@[simp] theorem State.advance_stop (s : State) (n : Nat) : (s.advance n).stop = s.stop := rfl
@[simp] theorem State.advance_ime (s : State) (n : Nat) : (s.advance n).ime = s.ime := rfl
@[simp] theorem State.advance_irq (s : State) (n : Nat) : (s.advance n).irq = s.irq := rfl
@[simp] theorem State.advance_init (s : State) (n : Nat) : (s.advance n).init = s.init := rfl
@[simp] theorem State.advance_eiPending (s : State) (n : Nat) : (s.advance n).eiPending = s.eiPending := rfl
@[simp] theorem State.advance_mem (s : State) (n : Nat) : (s.advance n).mem = s.mem := rfl

/-! ### `jump` -/

@[simp] theorem State.jump_a (s : State) (w : Word) : (s.jump w).a = s.a := rfl
@[simp] theorem State.jump_b (s : State) (w : Word) : (s.jump w).b = s.b := rfl
@[simp] theorem State.jump_c (s : State) (w : Word) : (s.jump w).c = s.c := rfl
@[simp] theorem State.jump_d (s : State) (w : Word) : (s.jump w).d = s.d := rfl
@[simp] theorem State.jump_e (s : State) (w : Word) : (s.jump w).e = s.e := rfl
@[simp] theorem State.jump_h (s : State) (w : Word) : (s.jump w).h = s.h := rfl
@[simp] theorem State.jump_l (s : State) (w : Word) : (s.jump w).l = s.l := rfl
@[simp] theorem State.jump_f (s : State) (w : Word) : (s.jump w).f = s.f := rfl
@[simp] theorem State.jump_pc (s : State) (w : Word) : (s.jump w).pc = w := rfl
@[simp] theorem State.jump_sp (s : State) (w : Word) : (s.jump w).sp = s.sp := rfl
@[simp] theorem State.jump_mclk (s : State) (w : Word) : (s.jump w).mclk = s.mclk := rfl
@[simp] theorem State.jump_tclk (s : State) (w : Word) : (s.jump w).tclk = s.tclk := rfl
@[simp] theorem State.jump_halt (s : State) (w : Word) : (s.jump w).halt = s.halt := rfl
@[simp] theorem State.jump_stop (s : State) (w : Word) : (s.jump w).stop = s.stop := rfl
@[simp] theorem State.jump_ime (s : State) (w : Word) : (s.jump w).ime = s.ime := rfl
@[simp] theorem State.jump_irq (s : State) (w : Word) : (s.jump w).irq = s.irq := rfl
@[simp] theorem State.jump_init (s : State) (w : Word) : (s.jump w).init = s.init := rfl
@[simp] theorem State.jump_eiPending (s : State) (w : Word) : (s.jump w).eiPending = s.eiPending := rfl
@[simp] theorem State.jump_mem (s : State) (w : Word) : (s.jump w).mem = s.mem := rfl

/-! ### `tick` -/

@[simp] theorem State.tick_a (s : State) (m : Nat) : (s.tick m).a = s.a := rfl
@[simp] theorem State.tick_b (s : State) (m : Nat) : (s.tick m).b = s.b := rfl
@[simp] theorem State.tick_c (s : State) (m : Nat) : (s.tick m).c = s.c := rfl
@[simp] theorem State.tick_d (s : State) (m : Nat) : (s.tick m).d = s.d := rfl
@[simp] theorem State.tick_e (s : State) (m : Nat) : (s.tick m).e = s.e := rfl
@[simp] theorem State.tick_h (s : State) (m : Nat) : (s.tick m).h = s.h := rfl
@[simp] theorem State.tick_l (s : State) (m : Nat) : (s.tick m).l = s.l := rfl
@[simp] theorem State.tick_f (s : State) (m : Nat) : (s.tick m).f = s.f := rfl
@[simp] theorem State.tick_pc (s : State) (m : Nat) : (s.tick m).pc = s.pc := rfl
@[simp] theorem State.tick_sp (s : State) (m : Nat) : (s.tick m).sp = s.sp := rfl
@[simp] theorem State.tick_mclk (s : State) (m : Nat) : (s.tick m).mclk = s.mclk + m := rfl
@[simp] theorem State.tick_tclk (s : State) (m : Nat) : (s.tick m).tclk = s.tclk + 4 * m := rfl
@[simp] theorem State.tick_halt (s : State) (m : Nat) : (s.tick m).halt = s.halt := rfl
@[simp] theorem State.tick_stop (s : State) (m : Nat) : (s.tick m).stop = s.stop := rfl
@[simp] theorem State.tick_ime (s : State) (m : Nat) : (s.tick m).ime = s.ime := rfl
@[simp] theorem State.tick_irq (s : State) (m : Nat) : (s.tick m).irq = s.irq := rfl
@[simp] theorem State.tick_init (s : State) (m : Nat) : (s.tick m).init = s.init := rfl
@[simp] theorem State.tick_eiPending (s : State) (m : Nat) : (s.tick m).eiPending = s.eiPending := rfl
@[simp] theorem State.tick_mem (s : State) (m : Nat) : (s.tick m).mem = s.mem := rfl

/-! ### `setFlags` -/

@[simp] theorem State.setFlags_a (s : State) (fl : Flags) : (s.setFlags fl).a = s.a := rfl
@[simp] theorem State.setFlags_b (s : State) (fl : Flags) : (s.setFlags fl).b = s.b := rfl
@[simp] theorem State.setFlags_c (s : State) (fl : Flags) : (s.setFlags fl).c = s.c := rfl
@[simp] theorem State.setFlags_d (s : State) (fl : Flags) : (s.setFlags fl).d = s.d := rfl
@[simp] theorem State.setFlags_e (s : State) (fl : Flags) : (s.setFlags fl).e = s.e := rfl
@[simp] theorem State.setFlags_h (s : State) (fl : Flags) : (s.setFlags fl).h = s.h := rfl
@[simp] theorem State.setFlags_l (s : State) (fl : Flags) : (s.setFlags fl).l = s.l := rfl
@[simp] theorem State.setFlags_f (s : State) (fl : Flags) : (s.setFlags fl).f = packFlags fl := rfl
@[simp] theorem State.setFlags_pc (s : State) (fl : Flags) : (s.setFlags fl).pc = s.pc := rfl
@[simp] theorem State.setFlags_sp (s : State) (fl : Flags) : (s.setFlags fl).sp = s.sp := rfl
@[simp] theorem State.setFlags_mclk (s : State) (fl : Flags) : (s.setFlags fl).mclk = s.mclk := rfl
@[simp] theorem State.setFlags_tclk (s : State) (fl : Flags) : (s.setFlags fl).tclk = s.tclk := rfl
@[simp] theorem State.setFlags_halt (s : State) (fl : Flags) : (s.setFlags fl).halt = s.halt := rfl
@[simp] theorem State.setFlags_stop (s : State) (fl : Flags) : (s.setFlags fl).stop = s.stop := rfl
@[simp] theorem State.setFlags_ime (s : State) (fl : Flags) : (s.setFlags fl).ime = s.ime := rfl
@[simp] theorem State.setFlags_irq (s : State) (fl : Flags) : (s.setFlags fl).irq = s.irq := rfl
@[simp] theorem State.setFlags_init (s : State) (fl : Flags) : (s.setFlags fl).init = s.init := rfl
@[simp] theorem State.setFlags_eiPending (s : State) (fl : Flags) : (s.setFlags fl).eiPending = s.eiPending := rfl
@[simp] theorem State.setFlags_mem (s : State) (fl : Flags) : (s.setFlags fl).mem = s.mem := rfl

/-! ### `setBc` -/

@[simp] theorem State.setBc_a (s : State) (w : Word) : (s.setBc w).a = s.a := rfl
@[simp] theorem State.setBc_b (s : State) (w : Word) : (s.setBc w).b = hiByte w := rfl
@[simp] theorem State.setBc_c (s : State) (w : Word) : (s.setBc w).c = loByte w := rfl
@[simp] theorem State.setBc_d (s : State) (w : Word) : (s.setBc w).d = s.d := rfl
@[simp] theorem State.setBc_e (s : State) (w : Word) : (s.setBc w).e = s.e := rfl
@[simp] theorem State.setBc_h (s : State) (w : Word) : (s.setBc w).h = s.h := rfl
@[simp] theorem State.setBc_l (s : State) (w : Word) : (s.setBc w).l = s.l := rfl
@[simp] theorem State.setBc_f (s : State) (w : Word) : (s.setBc w).f = s.f := rfl
@[simp] theorem State.setBc_pc (s : State) (w : Word) : (s.setBc w).pc = s.pc := rfl
@[simp] theorem State.setBc_sp (s : State) (w : Word) : (s.setBc w).sp = s.sp := rfl
@[simp] theorem State.setBc_mclk (s : State) (w : Word) : (s.setBc w).mclk = s.mclk := rfl
@[simp] theorem State.setBc_tclk (s : State) (w : Word) : (s.setBc w).tclk = s.tclk := rfl
@[simp] theorem State.setBc_halt (s : State) (w : Word) : (s.setBc w).halt = s.halt := rfl
@[simp] theorem State.setBc_stop (s : State) (w : Word) : (s.setBc w).stop = s.stop := rfl
@[simp] theorem State.setBc_ime (s : State) (w : Word) : (s.setBc w).ime = s.ime := rfl
@[simp] theorem State.setBc_irq (s : State) (w : Word) : (s.setBc w).irq = s.irq := rfl
@[simp] theorem State.setBc_init (s : State) (w : Word) : (s.setBc w).init = s.init := rfl
@[simp] theorem State.setBc_eiPending (s : State) (w : Word) : (s.setBc w).eiPending = s.eiPending := rfl
@[simp] theorem State.setBc_mem (s : State) (w : Word) : (s.setBc w).mem = s.mem := rfl

/-! ### `setDe` -/

@[simp] theorem State.setDe_a (s : State) (w : Word) : (s.setDe w).a = s.a := rfl
@[simp] theorem State.setDe_b (s : State) (w : Word) : (s.setDe w).b = s.b := rfl
@[simp] theorem State.setDe_c (s : State) (w : Word) : (s.setDe w).c = s.c := rfl
@[simp] theorem State.setDe_d (s : State) (w : Word) : (s.setDe w).d = hiByte w := rfl
@[simp] theorem State.setDe_e (s : State) (w : Word) : (s.setDe w).e = loByte w := rfl
@[simp] theorem State.setDe_h (s : State) (w : Word) : (s.setDe w).h = s.h := rfl
@[simp] theorem State.setDe_l (s : State) (w : Word) : (s.setDe w).l = s.l := rfl
@[simp] theorem State.setDe_f (s : State) (w : Word) : (s.setDe w).f = s.f := rfl
@[simp] theorem State.setDe_pc (s : State) (w : Word) : (s.setDe w).pc = s.pc := rfl
@[simp] theorem State.setDe_sp (s : State) (w : Word) : (s.setDe w).sp = s.sp := rfl
@[simp] theorem State.setDe_mclk (s : State) (w : Word) : (s.setDe w).mclk = s.mclk := rfl
@[simp] theorem State.setDe_tclk (s : State) (w : Word) : (s.setDe w).tclk = s.tclk := rfl
@[simp] theorem State.setDe_halt (s : State) (w : Word) : (s.setDe w).halt = s.halt := rfl
@[simp] theorem State.setDe_stop (s : State) (w : Word) : (s.setDe w).stop = s.stop := rfl
@[simp] theorem State.setDe_ime (s : State) (w : Word) : (s.setDe w).ime = s.ime := rfl
@[simp] theorem State.setDe_irq (s : State) (w : Word) : (s.setDe w).irq = s.irq := rfl
@[simp] theorem State.setDe_init (s : State) (w : Word) : (s.setDe w).init = s.init := rfl
@[simp] theorem State.setDe_eiPending (s : State) (w : Word) : (s.setDe w).eiPending = s.eiPending := rfl
@[simp] theorem State.setDe_mem (s : State) (w : Word) : (s.setDe w).mem = s.mem := rfl

/-! ### `setHl` -/

@[simp] theorem State.setHl_a (s : State) (w : Word) : (s.setHl w).a = s.a := rfl
@[simp] theorem State.setHl_b (s : State) (w : Word) : (s.setHl w).b = s.b := rfl
@[simp] theorem State.setHl_c (s : State) (w : Word) : (s.setHl w).c = s.c := rfl
@[simp] theorem State.setHl_d (s : State) (w : Word) : (s.setHl w).d = s.d := rfl
@[simp] theorem State.setHl_e (s : State) (w : Word) : (s.setHl w).e = s.e := rfl
@[simp] theorem State.setHl_h (s : State) (w : Word) : (s.setHl w).h = hiByte w := rfl
@[simp] theorem State.setHl_l (s : State) (w : Word) : (s.setHl w).l = loByte w := rfl
@[simp] theorem State.setHl_f (s : State) (w : Word) : (s.setHl w).f = s.f := rfl
@[simp] theorem State.setHl_pc (s : State) (w : Word) : (s.setHl w).pc = s.pc := rfl
@[simp] theorem State.setHl_sp (s : State) (w : Word) : (s.setHl w).sp = s.sp := rfl
@[simp] theorem State.setHl_mclk (s : State) (w : Word) : (s.setHl w).mclk = s.mclk := rfl
@[simp] theorem State.setHl_tclk (s : State) (w : Word) : (s.setHl w).tclk = s.tclk := rfl
@[simp] theorem State.setHl_halt (s : State) (w : Word) : (s.setHl w).halt = s.halt := rfl
@[simp] theorem State.setHl_stop (s : State) (w : Word) : (s.setHl w).stop = s.stop := rfl
@[simp] theorem State.setHl_ime (s : State) (w : Word) : (s.setHl w).ime = s.ime := rfl
@[simp] theorem State.setHl_irq (s : State) (w : Word) : (s.setHl w).irq = s.irq := rfl
@[simp] theorem State.setHl_init (s : State) (w : Word) : (s.setHl w).init = s.init := rfl
@[simp] theorem State.setHl_eiPending (s : State) (w : Word) : (s.setHl w).eiPending = s.eiPending := rfl
@[simp] theorem State.setHl_mem (s : State) (w : Word) : (s.setHl w).mem = s.mem := rfl

/-! ### `setAf` -/

@[simp] theorem State.setAf_a (s : State) (w : Word) : (s.setAf w).a = hiByte w := rfl
@[simp] theorem State.setAf_b (s : State) (w : Word) : (s.setAf w).b = s.b := rfl
@[simp] theorem State.setAf_c (s : State) (w : Word) : (s.setAf w).c = s.c := rfl
@[simp] theorem State.setAf_d (s : State) (w : Word) : (s.setAf w).d = s.d := rfl
@[simp] theorem State.setAf_e (s : State) (w : Word) : (s.setAf w).e = s.e := rfl
@[simp] theorem State.setAf_h (s : State) (w : Word) : (s.setAf w).h = s.h := rfl
@[simp] theorem State.setAf_l (s : State) (w : Word) : (s.setAf w).l = s.l := rfl
@[simp] theorem State.setAf_f (s : State) (w : Word) : (s.setAf w).f = loByte w &&& 0xF0 := rfl
@[simp] theorem State.setAf_pc (s : State) (w : Word) : (s.setAf w).pc = s.pc := rfl
@[simp] theorem State.setAf_sp (s : State) (w : Word) : (s.setAf w).sp = s.sp := rfl
@[simp] theorem State.setAf_mclk (s : State) (w : Word) : (s.setAf w).mclk = s.mclk := rfl
@[simp] theorem State.setAf_tclk (s : State) (w : Word) : (s.setAf w).tclk = s.tclk := rfl
@[simp] theorem State.setAf_halt (s : State) (w : Word) : (s.setAf w).halt = s.halt := rfl
@[simp] theorem State.setAf_stop (s : State) (w : Word) : (s.setAf w).stop = s.stop := rfl
@[simp] theorem State.setAf_ime (s : State) (w : Word) : (s.setAf w).ime = s.ime := rfl
@[simp] theorem State.setAf_irq (s : State) (w : Word) : (s.setAf w).irq = s.irq := rfl
@[simp] theorem State.setAf_init (s : State) (w : Word) : (s.setAf w).init = s.init := rfl
@[simp] theorem State.setAf_eiPending (s : State) (w : Word) : (s.setAf w).eiPending = s.eiPending := rfl
@[simp] theorem State.setAf_mem (s : State) (w : Word) : (s.setAf w).mem = s.mem := rfl

/-! ### `accumulate` -/

@[simp] theorem State.accumulate_a (s : State) (res : Byte × Flags) : (s.accumulate res).a = res.1 := rfl
@[simp] theorem State.accumulate_b (s : State) (res : Byte × Flags) : (s.accumulate res).b = s.b := rfl
@[simp] theorem State.accumulate_c (s : State) (res : Byte × Flags) : (s.accumulate res).c = s.c := rfl
@[simp] theorem State.accumulate_d (s : State) (res : Byte × Flags) : (s.accumulate res).d = s.d := rfl
@[simp] theorem State.accumulate_e (s : State) (res : Byte × Flags) : (s.accumulate res).e = s.e := rfl
@[simp] theorem State.accumulate_h (s : State) (res : Byte × Flags) : (s.accumulate res).h = s.h := rfl
@[simp] theorem State.accumulate_l (s : State) (res : Byte × Flags) : (s.accumulate res).l = s.l := rfl
@[simp] theorem State.accumulate_f (s : State) (res : Byte × Flags) : (s.accumulate res).f = packFlags res.2 := rfl
@[simp] theorem State.accumulate_pc (s : State) (res : Byte × Flags) : (s.accumulate res).pc = s.pc := rfl
@[simp] theorem State.accumulate_sp (s : State) (res : Byte × Flags) : (s.accumulate res).sp = s.sp := rfl
@[simp] theorem State.accumulate_mclk (s : State) (res : Byte × Flags) : (s.accumulate res).mclk = s.mclk := rfl
@[simp] theorem State.accumulate_tclk (s : State) (res : Byte × Flags) : (s.accumulate res).tclk = s.tclk := rfl
@[simp] theorem State.accumulate_halt (s : State) (res : Byte × Flags) : (s.accumulate res).halt = s.halt := rfl
@[simp] theorem State.accumulate_stop (s : State) (res : Byte × Flags) : (s.accumulate res).stop = s.stop := rfl
@[simp] theorem State.accumulate_ime (s : State) (res : Byte × Flags) : (s.accumulate res).ime = s.ime := rfl
@[simp] theorem State.accumulate_irq (s : State) (res : Byte × Flags) : (s.accumulate res).irq = s.irq := rfl
@[simp] theorem State.accumulate_init (s : State) (res : Byte × Flags) : (s.accumulate res).init = s.init := rfl
@[simp] theorem State.accumulate_eiPending (s : State) (res : Byte × Flags) : (s.accumulate res).eiPending = s.eiPending := rfl
@[simp] theorem State.accumulate_mem (s : State) (res : Byte × Flags) : (s.accumulate res).mem = s.mem := rfl

/-! ### `writeByte` -/

@[simp] theorem State.writeByte_a (s : State) (x : Word) (v : Byte) : (s.writeByte x v).a = s.a := rfl
@[simp] theorem State.writeByte_b (s : State) (x : Word) (v : Byte) : (s.writeByte x v).b = s.b := rfl
@[simp] theorem State.writeByte_c (s : State) (x : Word) (v : Byte) : (s.writeByte x v).c = s.c := rfl
@[simp] theorem State.writeByte_d (s : State) (x : Word) (v : Byte) : (s.writeByte x v).d = s.d := rfl
@[simp] theorem State.writeByte_e (s : State) (x : Word) (v : Byte) : (s.writeByte x v).e = s.e := rfl
@[simp] theorem State.writeByte_h (s : State) (x : Word) (v : Byte) : (s.writeByte x v).h = s.h := rfl
@[simp] theorem State.writeByte_l (s : State) (x : Word) (v : Byte) : (s.writeByte x v).l = s.l := rfl
@[simp] theorem State.writeByte_f (s : State) (x : Word) (v : Byte) : (s.writeByte x v).f = s.f := rfl
@[simp] theorem State.writeByte_pc (s : State) (x : Word) (v : Byte) : (s.writeByte x v).pc = s.pc := rfl
@[simp] theorem State.writeByte_sp (s : State) (x : Word) (v : Byte) : (s.writeByte x v).sp = s.sp := rfl
@[simp] theorem State.writeByte_mclk (s : State) (x : Word) (v : Byte) : (s.writeByte x v).mclk = s.mclk := rfl
@[simp] theorem State.writeByte_tclk (s : State) (x : Word) (v : Byte) : (s.writeByte x v).tclk = s.tclk := rfl
@[simp] theorem State.writeByte_halt (s : State) (x : Word) (v : Byte) : (s.writeByte x v).halt = s.halt := rfl
@[simp] theorem State.writeByte_stop (s : State) (x : Word) (v : Byte) : (s.writeByte x v).stop = s.stop := rfl
@[simp] theorem State.writeByte_ime (s : State) (x : Word) (v : Byte) : (s.writeByte x v).ime = s.ime := rfl
@[simp] theorem State.writeByte_irq (s : State) (x : Word) (v : Byte) : (s.writeByte x v).irq = s.irq := rfl
@[simp] theorem State.writeByte_init (s : State) (x : Word) (v : Byte) : (s.writeByte x v).init = s.init := rfl
@[simp] theorem State.writeByte_eiPending (s : State) (x : Word) (v : Byte) : (s.writeByte x v).eiPending = s.eiPending := rfl
@[simp] theorem State.writeByte_mem (s : State) (x : Word) (v : Byte) : (s.writeByte x v).mem = Memory.write s.mem x.toNat v := rfl

/-! ### `writeWord` -/

@[simp] theorem State.writeWord_a (s : State) (x w : Word) : (s.writeWord x w).a = s.a := rfl
@[simp] theorem State.writeWord_b (s : State) (x w : Word) : (s.writeWord x w).b = s.b := rfl
@[simp] theorem State.writeWord_c (s : State) (x w : Word) : (s.writeWord x w).c = s.c := rfl
@[simp] theorem State.writeWord_d (s : State) (x w : Word) : (s.writeWord x w).d = s.d := rfl
@[simp] theorem State.writeWord_e (s : State) (x w : Word) : (s.writeWord x w).e = s.e := rfl
@[simp] theorem State.writeWord_h (s : State) (x w : Word) : (s.writeWord x w).h = s.h := rfl
@[simp] theorem State.writeWord_l (s : State) (x w : Word) : (s.writeWord x w).l = s.l := rfl
@[simp] theorem State.writeWord_f (s : State) (x w : Word) : (s.writeWord x w).f = s.f := rfl
@[simp] theorem State.writeWord_pc (s : State) (x w : Word) : (s.writeWord x w).pc = s.pc := rfl
@[simp] theorem State.writeWord_sp (s : State) (x w : Word) : (s.writeWord x w).sp = s.sp := rfl
@[simp] theorem State.writeWord_mclk (s : State) (x w : Word) : (s.writeWord x w).mclk = s.mclk := rfl
@[simp] theorem State.writeWord_tclk (s : State) (x w : Word) : (s.writeWord x w).tclk = s.tclk := rfl
@[simp] theorem State.writeWord_halt (s : State) (x w : Word) : (s.writeWord x w).halt = s.halt := rfl
@[simp] theorem State.writeWord_stop (s : State) (x w : Word) : (s.writeWord x w).stop = s.stop := rfl
@[simp] theorem State.writeWord_ime (s : State) (x w : Word) : (s.writeWord x w).ime = s.ime := rfl
@[simp] theorem State.writeWord_irq (s : State) (x w : Word) : (s.writeWord x w).irq = s.irq := rfl
@[simp] theorem State.writeWord_init (s : State) (x w : Word) : (s.writeWord x w).init = s.init := rfl
@[simp] theorem State.writeWord_eiPending (s : State) (x w : Word) : (s.writeWord x w).eiPending = s.eiPending := rfl
@[simp] theorem State.writeWord_mem (s : State) (x w : Word) : (s.writeWord x w).mem = Memory.write (Memory.write s.mem x.toNat (loByte w)) (x + 1).toNat (hiByte w) := rfl

/-! ### `push16` -/

@[simp] theorem State.push16_a (s : State) (w : Word) : (s.push16 w).a = s.a := rfl
@[simp] theorem State.push16_b (s : State) (w : Word) : (s.push16 w).b = s.b := rfl
@[simp] theorem State.push16_c (s : State) (w : Word) : (s.push16 w).c = s.c := rfl
@[simp] theorem State.push16_d (s : State) (w : Word) : (s.push16 w).d = s.d := rfl
@[simp] theorem State.push16_e (s : State) (w : Word) : (s.push16 w).e = s.e := rfl
@[simp] theorem State.push16_h (s : State) (w : Word) : (s.push16 w).h = s.h := rfl
@[simp] theorem State.push16_l (s : State) (w : Word) : (s.push16 w).l = s.l := rfl
@[simp] theorem State.push16_f (s : State) (w : Word) : (s.push16 w).f = s.f := rfl
@[simp] theorem State.push16_pc (s : State) (w : Word) : (s.push16 w).pc = s.pc := rfl
@[simp] theorem State.push16_sp (s : State) (w : Word) : (s.push16 w).sp = s.sp - 2 := rfl
@[simp] theorem State.push16_mclk (s : State) (w : Word) : (s.push16 w).mclk = s.mclk := rfl
@[simp] theorem State.push16_tclk (s : State) (w : Word) : (s.push16 w).tclk = s.tclk := rfl
@[simp] theorem State.push16_halt (s : State) (w : Word) : (s.push16 w).halt = s.halt := rfl
@[simp] theorem State.push16_stop (s : State) (w : Word) : (s.push16 w).stop = s.stop := rfl
@[simp] theorem State.push16_ime (s : State) (w : Word) : (s.push16 w).ime = s.ime := rfl
@[simp] theorem State.push16_irq (s : State) (w : Word) : (s.push16 w).irq = s.irq := rfl
@[simp] theorem State.push16_init (s : State) (w : Word) : (s.push16 w).init = s.init := rfl
@[simp] theorem State.push16_eiPending (s : State) (w : Word) : (s.push16 w).eiPending = s.eiPending := rfl
@[simp] theorem State.push16_mem (s : State) (w : Word) : (s.push16 w).mem = Memory.write (Memory.write s.mem (s.sp - 2).toNat (loByte w)) (s.sp - 2 + 1).toNat (hiByte w) := rfl

/-! ### `drop16` -/

@[simp] theorem State.drop16_a (s : State) : (s.drop16).a = s.a := rfl
@[simp] theorem State.drop16_b (s : State) : (s.drop16).b = s.b := rfl
@[simp] theorem State.drop16_c (s : State) : (s.drop16).c = s.c := rfl
@[simp] theorem State.drop16_d (s : State) : (s.drop16).d = s.d := rfl
@[simp] theorem State.drop16_e (s : State) : (s.drop16).e = s.e := rfl
@[simp] theorem State.drop16_h (s : State) : (s.drop16).h = s.h := rfl
@[simp] theorem State.drop16_l (s : State) : (s.drop16).l = s.l := rfl
@[simp] theorem State.drop16_f (s : State) : (s.drop16).f = s.f := rfl
@[simp] theorem State.drop16_pc (s : State) : (s.drop16).pc = s.pc := rfl
@[simp] theorem State.drop16_sp (s : State) : (s.drop16).sp = s.sp + 2 := rfl
@[simp] theorem State.drop16_mclk (s : State) : (s.drop16).mclk = s.mclk := rfl
@[simp] theorem State.drop16_tclk (s : State) : (s.drop16).tclk = s.tclk := rfl
@[simp] theorem State.drop16_halt (s : State) : (s.drop16).halt = s.halt := rfl
@[simp] theorem State.drop16_stop (s : State) : (s.drop16).stop = s.stop := rfl
@[simp] theorem State.drop16_ime (s : State) : (s.drop16).ime = s.ime := rfl
@[simp] theorem State.drop16_irq (s : State) : (s.drop16).irq = s.irq := rfl
@[simp] theorem State.drop16_init (s : State) : (s.drop16).init = s.init := rfl
@[simp] theorem State.drop16_eiPending (s : State) : (s.drop16).eiPending = s.eiPending := rfl
@[simp] theorem State.drop16_mem (s : State) : (s.drop16).mem = s.mem := rfl

/-! ### `inject` -/

@[simp] theorem State.inject_a (s : State) (v : Word) : (s.inject v).a = s.a := rfl
@[simp] theorem State.inject_b (s : State) (v : Word) : (s.inject v).b = s.b := rfl
@[simp] theorem State.inject_c (s : State) (v : Word) : (s.inject v).c = s.c := rfl
@[simp] theorem State.inject_d (s : State) (v : Word) : (s.inject v).d = s.d := rfl
@[simp] theorem State.inject_e (s : State) (v : Word) : (s.inject v).e = s.e := rfl
@[simp] theorem State.inject_h (s : State) (v : Word) : (s.inject v).h = s.h := rfl
@[simp] theorem State.inject_l (s : State) (v : Word) : (s.inject v).l = s.l := rfl
@[simp] theorem State.inject_f (s : State) (v : Word) : (s.inject v).f = s.f := rfl
@[simp] theorem State.inject_pc (s : State) (v : Word) : (s.inject v).pc = s.pc := rfl
@[simp] theorem State.inject_sp (s : State) (v : Word) : (s.inject v).sp = s.sp := rfl
@[simp] theorem State.inject_mclk (s : State) (v : Word) : (s.inject v).mclk = s.mclk := rfl
@[simp] theorem State.inject_tclk (s : State) (v : Word) : (s.inject v).tclk = s.tclk := rfl
@[simp] theorem State.inject_halt (s : State) (v : Word) : (s.inject v).halt = false := rfl
@[simp] theorem State.inject_stop (s : State) (v : Word) : (s.inject v).stop = false := rfl
@[simp] theorem State.inject_ime (s : State) (v : Word) : (s.inject v).ime = s.ime := rfl
@[simp] theorem State.inject_irq (s : State) (v : Word) : (s.inject v).irq = some v := rfl
@[simp] theorem State.inject_init (s : State) (v : Word) : (s.inject v).init = s.init := rfl
@[simp] theorem State.inject_eiPending (s : State) (v : Word) : (s.inject v).eiPending = s.eiPending := rfl
@[simp] theorem State.inject_mem (s : State) (v : Word) : (s.inject v).mem = s.mem := rfl

/-! ### `disableInterrupts` -/

@[simp] theorem State.disableInterrupts_a (s : State) : (s.disableInterrupts).a = s.a := rfl
@[simp] theorem State.disableInterrupts_b (s : State) : (s.disableInterrupts).b = s.b := rfl
@[simp] theorem State.disableInterrupts_c (s : State) : (s.disableInterrupts).c = s.c := rfl
@[simp] theorem State.disableInterrupts_d (s : State) : (s.disableInterrupts).d = s.d := rfl
@[simp] theorem State.disableInterrupts_e (s : State) : (s.disableInterrupts).e = s.e := rfl
@[simp] theorem State.disableInterrupts_h (s : State) : (s.disableInterrupts).h = s.h := rfl
@[simp] theorem State.disableInterrupts_l (s : State) : (s.disableInterrupts).l = s.l := rfl
@[simp] theorem State.disableInterrupts_f (s : State) : (s.disableInterrupts).f = s.f := rfl
@[simp] theorem State.disableInterrupts_pc (s : State) : (s.disableInterrupts).pc = s.pc := rfl
@[simp] theorem State.disableInterrupts_sp (s : State) : (s.disableInterrupts).sp = s.sp := rfl
@[simp] theorem State.disableInterrupts_mclk (s : State) : (s.disableInterrupts).mclk = s.mclk := rfl
@[simp] theorem State.disableInterrupts_tclk (s : State) : (s.disableInterrupts).tclk = s.tclk := rfl
@[simp] theorem State.disableInterrupts_halt (s : State) : (s.disableInterrupts).halt = s.halt := rfl
@[simp] theorem State.disableInterrupts_stop (s : State) : (s.disableInterrupts).stop = s.stop := rfl
@[simp] theorem State.disableInterrupts_ime (s : State) : (s.disableInterrupts).ime = false := rfl
@[simp] theorem State.disableInterrupts_irq (s : State) : (s.disableInterrupts).irq = s.irq := rfl
@[simp] theorem State.disableInterrupts_init (s : State) : (s.disableInterrupts).init = s.init := rfl
@[simp] theorem State.disableInterrupts_eiPending (s : State) : (s.disableInterrupts).eiPending = false := rfl
@[simp] theorem State.disableInterrupts_mem (s : State) : (s.disableInterrupts).mem = s.mem := rfl

/-! ### `setReg8` -/

@[simp] theorem State.setReg8_f (s : State) (r : Reg8) (v : Byte) : (s.setReg8 r v).f = s.f := by cases r <;> rfl
@[simp] theorem State.setReg8_pc (s : State) (r : Reg8) (v : Byte) : (s.setReg8 r v).pc = s.pc := by cases r <;> rfl
@[simp] theorem State.setReg8_sp (s : State) (r : Reg8) (v : Byte) : (s.setReg8 r v).sp = s.sp := by cases r <;> rfl
@[simp] theorem State.setReg8_mclk (s : State) (r : Reg8) (v : Byte) : (s.setReg8 r v).mclk = s.mclk := by cases r <;> rfl
@[simp] theorem State.setReg8_tclk (s : State) (r : Reg8) (v : Byte) : (s.setReg8 r v).tclk = s.tclk := by cases r <;> rfl
@[simp] theorem State.setReg8_halt (s : State) (r : Reg8) (v : Byte) : (s.setReg8 r v).halt = s.halt := by cases r <;> rfl
@[simp] theorem State.setReg8_stop (s : State) (r : Reg8) (v : Byte) : (s.setReg8 r v).stop = s.stop := by cases r <;> rfl
@[simp] theorem State.setReg8_ime (s : State) (r : Reg8) (v : Byte) : (s.setReg8 r v).ime = s.ime := by cases r <;> rfl
@[simp] theorem State.setReg8_irq (s : State) (r : Reg8) (v : Byte) : (s.setReg8 r v).irq = s.irq := by cases r <;> rfl
@[simp] theorem State.setReg8_init (s : State) (r : Reg8) (v : Byte) : (s.setReg8 r v).init = s.init := by cases r <;> rfl
@[simp] theorem State.setReg8_eiPending (s : State) (r : Reg8) (v : Byte) : (s.setReg8 r v).eiPending = s.eiPending := by cases r <;> rfl
@[simp] theorem State.setReg8_mem (s : State) (r : Reg8) (v : Byte) : (s.setReg8 r v).mem = s.mem := by cases r <;> rfl

@[simp] theorem State.setReg8_reg8 (s : State) (r q : Reg8) (v : Byte) :
    (s.setReg8 r v).reg8 q = if q = r then v else s.reg8 q := by cases r <;> cases q <;> rfl

/-! ### `setPair` -/

@[simp] theorem State.setPair_f (s : State) (rr : Pair) (w : Word) : (s.setPair rr w).f = s.f := by cases rr <;> rfl
@[simp] theorem State.setPair_pc (s : State) (rr : Pair) (w : Word) : (s.setPair rr w).pc = s.pc := by cases rr <;> rfl
@[simp] theorem State.setPair_sp (s : State) (rr : Pair) (w : Word) :
    (s.setPair rr w).sp = if rr = .sp then w else s.sp := by cases rr <;> rfl
@[simp] theorem State.setPair_mclk (s : State) (rr : Pair) (w : Word) : (s.setPair rr w).mclk = s.mclk := by cases rr <;> rfl
@[simp] theorem State.setPair_tclk (s : State) (rr : Pair) (w : Word) : (s.setPair rr w).tclk = s.tclk := by cases rr <;> rfl
@[simp] theorem State.setPair_halt (s : State) (rr : Pair) (w : Word) : (s.setPair rr w).halt = s.halt := by cases rr <;> rfl
@[simp] theorem State.setPair_stop (s : State) (rr : Pair) (w : Word) : (s.setPair rr w).stop = s.stop := by cases rr <;> rfl
@[simp] theorem State.setPair_ime (s : State) (rr : Pair) (w : Word) : (s.setPair rr w).ime = s.ime := by cases rr <;> rfl
@[simp] theorem State.setPair_irq (s : State) (rr : Pair) (w : Word) : (s.setPair rr w).irq = s.irq := by cases rr <;> rfl
@[simp] theorem State.setPair_init (s : State) (rr : Pair) (w : Word) : (s.setPair rr w).init = s.init := by cases rr <;> rfl
@[simp] theorem State.setPair_eiPending (s : State) (rr : Pair) (w : Word) : (s.setPair rr w).eiPending = s.eiPending := by cases rr <;> rfl
@[simp] theorem State.setPair_mem (s : State) (rr : Pair) (w : Word) : (s.setPair rr w).mem = s.mem := by cases rr <;> rfl

/-! ### `setStackPair` -/

@[simp] theorem State.setStackPair_f (s : State) (qq : StackPair) (w : Word) :
    (s.setStackPair qq w).f = if qq = .af then loByte w &&& 0xF0 else s.f := by cases qq <;> rfl
@[simp] theorem State.setStackPair_pc (s : State) (qq : StackPair) (w : Word) : (s.setStackPair qq w).pc = s.pc := by cases qq <;> rfl
@[simp] theorem State.setStackPair_sp (s : State) (qq : StackPair) (w : Word) : (s.setStackPair qq w).sp = s.sp := by cases qq <;> rfl
@[simp] theorem State.setStackPair_mclk (s : State) (qq : StackPair) (w : Word) : (s.setStackPair qq w).mclk = s.mclk := by cases qq <;> rfl
@[simp] theorem State.setStackPair_tclk (s : State) (qq : StackPair) (w : Word) : (s.setStackPair qq w).tclk = s.tclk := by cases qq <;> rfl
@[simp] theorem State.setStackPair_halt (s : State) (qq : StackPair) (w : Word) : (s.setStackPair qq w).halt = s.halt := by cases qq <;> rfl
@[simp] theorem State.setStackPair_stop (s : State) (qq : StackPair) (w : Word) : (s.setStackPair qq w).stop = s.stop := by cases qq <;> rfl
@[simp] theorem State.setStackPair_ime (s : State) (qq : StackPair) (w : Word) : (s.setStackPair qq w).ime = s.ime := by cases qq <;> rfl
@[simp] theorem State.setStackPair_irq (s : State) (qq : StackPair) (w : Word) : (s.setStackPair qq w).irq = s.irq := by cases qq <;> rfl
@[simp] theorem State.setStackPair_init (s : State) (qq : StackPair) (w : Word) : (s.setStackPair qq w).init = s.init := by cases qq <;> rfl
@[simp] theorem State.setStackPair_eiPending (s : State) (qq : StackPair) (w : Word) : (s.setStackPair qq w).eiPending = s.eiPending := by cases qq <;> rfl
@[simp] theorem State.setStackPair_mem (s : State) (qq : StackPair) (w : Word) : (s.setStackPair qq w).mem = s.mem := by cases qq <;> rfl

/-! ### Registers through the other operations -/

@[simp] theorem State.advance_reg8 (s : State) (n : Nat) (r : Reg8) : (s.advance n).reg8 r = s.reg8 r := by cases r <;> rfl
@[simp] theorem State.jump_reg8 (s : State) (w : Word) (r : Reg8) : (s.jump w).reg8 r = s.reg8 r := by cases r <;> rfl
@[simp] theorem State.tick_reg8 (s : State) (m : Nat) (r : Reg8) : (s.tick m).reg8 r = s.reg8 r := by cases r <;> rfl
@[simp] theorem State.setFlags_reg8 (s : State) (fl : Flags) (r : Reg8) : (s.setFlags fl).reg8 r = s.reg8 r := by cases r <;> rfl
@[simp] theorem State.writeByte_reg8 (s : State) (x : Word) (v : Byte) (r : Reg8) : (s.writeByte x v).reg8 r = s.reg8 r := by cases r <;> rfl
@[simp] theorem State.writeWord_reg8 (s : State) (x w : Word) (r : Reg8) : (s.writeWord x w).reg8 r = s.reg8 r := by cases r <;> rfl
@[simp] theorem State.push16_reg8 (s : State) (w : Word) (r : Reg8) : (s.push16 w).reg8 r = s.reg8 r := by cases r <;> rfl
@[simp] theorem State.drop16_reg8 (s : State) (r : Reg8) : (s.drop16).reg8 r = s.reg8 r := by cases r <;> rfl
@[simp] theorem State.inject_reg8 (s : State) (v : Word) (r : Reg8) : (s.inject v).reg8 r = s.reg8 r := by cases r <;> rfl
@[simp] theorem State.disableInterrupts_reg8 (s : State) (r : Reg8) : (s.disableInterrupts).reg8 r = s.reg8 r := by cases r <;> rfl

@[simp] theorem State.accumulate_reg8 (s : State) (res : Byte × Flags) (q : Reg8) :
    (s.accumulate res).reg8 q = if q = .a then res.1 else s.reg8 q := by cases q <;> rfl

/-! ### Bytes of memory through the other operations -/

@[simp] theorem State.advance_readByte (s : State) (n : Nat) (x : Word) : (s.advance n).readByte x = s.readByte x := rfl
@[simp] theorem State.jump_readByte (s : State) (w : Word) (x : Word) : (s.jump w).readByte x = s.readByte x := rfl
@[simp] theorem State.tick_readByte (s : State) (m : Nat) (x : Word) : (s.tick m).readByte x = s.readByte x := rfl
@[simp] theorem State.setFlags_readByte (s : State) (fl : Flags) (x : Word) : (s.setFlags fl).readByte x = s.readByte x := rfl
@[simp] theorem State.setBc_readByte (s : State) (w : Word) (x : Word) : (s.setBc w).readByte x = s.readByte x := rfl
@[simp] theorem State.setDe_readByte (s : State) (w : Word) (x : Word) : (s.setDe w).readByte x = s.readByte x := rfl
@[simp] theorem State.setHl_readByte (s : State) (w : Word) (x : Word) : (s.setHl w).readByte x = s.readByte x := rfl
@[simp] theorem State.setAf_readByte (s : State) (w : Word) (x : Word) : (s.setAf w).readByte x = s.readByte x := rfl
@[simp] theorem State.accumulate_readByte (s : State) (res : Byte × Flags) (x : Word) : (s.accumulate res).readByte x = s.readByte x := rfl
@[simp] theorem State.drop16_readByte (s : State) (x : Word) : (s.drop16).readByte x = s.readByte x := rfl
@[simp] theorem State.inject_readByte (s : State) (v : Word) (x : Word) : (s.inject v).readByte x = s.readByte x := rfl
@[simp] theorem State.disableInterrupts_readByte (s : State) (x : Word) : (s.disableInterrupts).readByte x = s.readByte x := rfl
@[simp] theorem State.setReg8_readByte (s : State) (r : Reg8) (v : Byte) (x : Word) : (s.setReg8 r v).readByte x = s.readByte x := by
  simp [State.readByte]
@[simp] theorem State.setPair_readByte (s : State) (rr : Pair) (w : Word) (x : Word) : (s.setPair rr w).readByte x = s.readByte x := by
  simp [State.readByte]
@[simp] theorem State.setStackPair_readByte (s : State) (qq : StackPair) (w : Word) (x : Word) : (s.setStackPair qq w).readByte x = s.readByte x := by
  simp [State.readByte]

end Sys2Proof.Machine
end

