-- ==== Sys2Proof/Laws/Memory.lean ====
section
/-! SUPPORT. The memory array: reading after writing, and that every memory operation keeps the canonical form. -/

namespace Sys2Proof.Machine

/-- A lower bound on the listed addresses can be lowered. -/
theorem Memory.wfFrom_le {lo lo' : Nat} (h : lo ≤ lo') : ∀ {m : Memory}, Memory.wfFrom lo' m = true → Memory.wfFrom lo m = true
  | [], _ => rfl
  | (k, v) :: m, hw => by
    simp only [Memory.wfFrom, Bool.and_eq_true, decide_eq_true_eq] at hw ⊢
    exact ⟨⟨⟨le_trans h hw.1.1.1, hw.1.1.2⟩, hw.1.2⟩, hw.2⟩

/-- Below the first listed address every cell reads 0x00. -/
theorem Memory.read_below {lo a : Nat} (ha : a < lo) : ∀ {m : Memory}, Memory.wfFrom lo m = true → Memory.read m a = 0
  | [], _ => rfl
  | (k, v) :: m, hw => by
    simp only [Memory.wfFrom, Bool.and_eq_true, decide_eq_true_eq] at hw
    simp [Memory.read, lt_of_lt_of_le ha hw.1.1.1]

/-- A write keeps the canonical form. -/
theorem Memory.write_wfFrom {lo a : Nat} (v : Byte) (hlo : lo ≤ a) (ha : a < 65536) :
    ∀ {m : Memory}, Memory.wfFrom lo m = true → Memory.wfFrom lo (Memory.write m a v) = true
  | [], _ => by
    unfold Memory.write
    split
    · rfl
    · rename_i hv
      simp only [Memory.wfFrom, Bool.and_eq_true, decide_eq_true_eq]
      exact ⟨⟨⟨hlo, ha⟩, hv⟩, trivial⟩
  | (k, u) :: m, hw => by
    simp only [Memory.wfFrom, Bool.and_eq_true, decide_eq_true_eq] at hw
    obtain ⟨⟨⟨hk, hk'⟩, hu⟩, hm⟩ := hw
    unfold Memory.write
    split
    · split <;> simp only [Memory.wfFrom, Bool.and_eq_true, decide_eq_true_eq]
      · exact ⟨⟨⟨hk, hk'⟩, hu⟩, hm⟩
      · rename_i hlt hv
        exact ⟨⟨⟨hlo, ha⟩, hv⟩, ⟨⟨hlt, hk'⟩, hu⟩, hm⟩
    · split
      · split
        · exact Memory.wfFrom_le (by omega) hm
        · rename_i heq hv
          subst heq
          simp only [Memory.wfFrom, Bool.and_eq_true, decide_eq_true_eq]
          exact ⟨⟨⟨hlo, ha⟩, hv⟩, hm⟩
      · simp only [Memory.wfFrom, Bool.and_eq_true, decide_eq_true_eq]
        exact ⟨⟨⟨hk, hk'⟩, hu⟩, Memory.write_wfFrom v (by omega) ha hm⟩

/-- A write inside the address space keeps the canonical form. -/
theorem Memory.write_wf {m : Memory} {a : Nat} {v : Byte} (ha : a < 65536) (h : Memory.wf m = true) :
    Memory.wf (Memory.write m a v) = true := Memory.write_wfFrom v (Nat.zero_le _) ha h

/-- Reading after a write, in canonical form. -/
theorem Memory.read_write {lo a : Nat} (v : Byte) (b : Nat) :
    ∀ {m : Memory}, Memory.wfFrom lo m = true → Memory.read (Memory.write m a v) b = if b = a then v else Memory.read m b
  | [], _ => by
    by_cases hv : v = 0
    · simp [Memory.write, Memory.read, hv]
    · simp only [Memory.write, hv, if_false, Memory.read]
      split <;> simp_all; omega
  | (k, u) :: m, hw => by
    simp only [Memory.wfFrom, Bool.and_eq_true, decide_eq_true_eq] at hw
    obtain ⟨⟨⟨_, _⟩, _⟩, hm⟩ := hw
    have below : ∀ c, c < k + 1 → Memory.read m c = 0 := fun c hc => Memory.read_below hc hm
    unfold Memory.write
    split
    · split
      · rename_i hlt hv
        by_cases hb : b = a
        · subst hb; simp [Memory.read, hlt, hv]
        · simp [hb]
      · rename_i hlt hv
        by_cases hb : b = a
        · simp [Memory.read, hb]
        · by_cases hba : b < a
          · simp [Memory.read, hba, hb, show b < k by omega]
          · simp [Memory.read, hba, hb]
    · split
      · rename_i hlt heq
        subst heq
        split
        · rename_i hv
          by_cases hb : b = a
          · simp [hb, below a (by omega), hv]
          · by_cases hba : b < a
            · simp [Memory.read, hb, hba, below b (by omega)]
            · simp [Memory.read, hb, hba]
        · by_cases hb : b = a
          · simp [Memory.read, hb]
          · simp [Memory.read, hb]
      · rename_i hlt hne
        have ih := Memory.read_write (a := a) v b hm
        by_cases hbk : b < k
        · simp [Memory.read, hbk, show b ≠ a by omega]
        · by_cases hbk' : b = k
          · simp [Memory.read, hbk', show k ≠ a by omega]
          · simp [Memory.read, hbk, hbk', ih]

/-! ### The same over the state -/

/-- `writeByte` keeps the canonical form. -/
theorem State.writeByte_wf {s : State} (h : Memory.wf s.mem = true) (a : Word) (v : Byte) :
    Memory.wf (s.writeByte a v).mem = true := Memory.write_wfFrom v (Nat.zero_le _) a.isLt h

/-- Reading a byte after `writeByte`. -/
theorem State.readByte_writeByte {s : State} (h : Memory.wf s.mem = true) (a b : Word) (v : Byte) :
    (s.writeByte a v).readByte b = if b = a then v else s.readByte b := by
  have := Memory.read_write (a := a.toNat) v b.toNat h
  simpa [State.readByte, State.writeByte, BitVec.toNat_inj] using this

/-- `writeWord` keeps the canonical form. -/
theorem State.writeWord_wf {s : State} (h : Memory.wf s.mem = true) (a w : Word) :
    Memory.wf (s.writeWord a w).mem = true := State.writeByte_wf (State.writeByte_wf h _ _) _ _

/-- Reading a byte after `writeWord`: the low byte at `a`, the high byte at `a + 1`. -/
theorem State.readByte_writeWord {s : State} (h : Memory.wf s.mem = true) (a w b : Word) :
    (s.writeWord a w).readByte b = if b = a + 1 then hiByte w else if b = a then loByte w else s.readByte b := by
  rw [State.writeWord, State.readByte_writeByte (State.writeByte_wf h _ _), State.readByte_writeByte h]

/-- `push16` keeps the canonical form. -/
theorem State.push16_wf {s : State} (h : Memory.wf s.mem = true) (w : Word) : Memory.wf (s.push16 w).mem = true :=
  State.writeWord_wf (s := { s with sp := s.sp - 2 }) h _ _

/-- Reading a byte after `push16`. -/
theorem State.readByte_push16 {s : State} (h : Memory.wf s.mem = true) (w b : Word) :
    (s.push16 w).readByte b =
      if b = s.sp - 2 + 1 then hiByte w else if b = s.sp - 2 then loByte w else s.readByte b :=
  State.readByte_writeWord (s := { s with sp := s.sp - 2 }) h _ _ _

/-- `enterInterrupt` keeps the canonical form. -/
theorem State.enterInterrupt_wf {s : State} (h : Memory.wf s.mem = true) (v : Word) (p : Params) :
    Memory.wf (s.enterInterrupt v p).mem = true :=
  State.push16_wf (s := { s with irq := none, ime := false, halt := false, stop := false }) h _

/-- `loadBytes` within the array keeps the canonical form. -/
theorem State.loadBytes_wf : ∀ (bytes : List Byte) (pos : Nat) {s : State}, Memory.wf s.mem = true →
    pos + bytes.length ≤ 65536 → Memory.wf (s.loadBytes pos bytes).mem = true
  | [], _, _, h, _ => h
  | v :: rest, pos, s, h, hl => by
    simp only [List.length_cons] at hl
    exact State.loadBytes_wf rest (pos + 1)
      (Memory.write_wfFrom v (Nat.zero_le _) (by omega) h) (by omega)

/-- Reading a byte after `loadBytes`: inside the image its byte, outside it the old one. -/
theorem State.readByte_loadBytes : ∀ (bytes : List Byte) (pos : Nat) {s : State}, Memory.wf s.mem = true →
    pos + bytes.length ≤ 65536 → ∀ a : Word, (s.loadBytes pos bytes).readByte a =
      if pos ≤ a.toNat ∧ a.toNat < pos + bytes.length then bytes.getD (a.toNat - pos) 0 else s.readByte a
  | [], pos, s, _, _, a => by
    simp only [State.loadBytes, List.length_nil]
    rw [if_neg (by omega)]
  | v :: rest, pos, s, h, hl, a => by
    simp only [List.length_cons] at hl ⊢
    rw [State.loadBytes, State.readByte_loadBytes rest (pos + 1)
      (s := { s with mem := Memory.write s.mem pos v }) (Memory.write_wfFrom v (Nat.zero_le _) (by omega) h) (by omega) a]
    simp only [State.readByte, Memory.read_write (a := pos) v a.toNat h]
    by_cases h1 : a.toNat = pos
    · simp [h1]
    · by_cases h2 : pos + 1 ≤ a.toNat ∧ a.toNat < pos + 1 + rest.length
      · obtain ⟨k, hk⟩ : ∃ k, a.toNat - pos = k + 1 := ⟨a.toNat - pos - 1, by omega⟩
        rw [if_pos h2, if_pos (by omega), hk, show a.toNat - (pos + 1) = k by omega, List.getD_cons_succ]
      · rw [if_neg h2, if_neg h1, if_neg (by omega)]

/-- `loadBytes` writes nothing but memory. -/
theorem State.loadBytes_frame : ∀ (bytes : List Byte) (pos : Nat) (s : State),
    s.loadBytes pos bytes = { s with mem := (s.loadBytes pos bytes).mem }
  | [], _, _ => rfl
  | v :: rest, pos, s => by
    rw [State.loadBytes, State.loadBytes_frame rest (pos + 1)]

/-- The memory after reset, which lists nothing, is in canonical form. -/
theorem State.resetAt_wf (entry : Word) : Memory.wf (State.resetAt entry).mem = true := rfl

theorem State.reset_wf : Memory.wf State.reset.mem = true := rfl

end Sys2Proof.Machine
end

