-- ==== Sys2Proof/Laws/Ops.lean ====
section
/-! SUPPORT. What each shared operation can do, said once: bytes and words, flags, registers and pairs, the shapes the
meanings are built from, and the three cases of a step. -/

namespace Sys2Proof

/-! ### Bytes and words -/

theorem makeWord_toNat (hi lo : Byte) : (makeWord hi lo).toNat = 256 * hi.toNat + lo.toNat := by
  have := lo.isLt
  simp only [makeWord, BitVec.toNat_append]
  rw [← Nat.shiftLeft_add_eq_or_of_lt this, Nat.shiftLeft_eq]
  omega

theorem hiByte_toNat (w : Word) : (hiByte w).toNat = w.toNat / 256 := by
  have := w.isLt
  simp only [hiByte, BitVec.extractLsb'_toNat, Nat.shiftRight_eq_div_pow]
  omega

theorem loByte_toNat (w : Word) : (loByte w).toNat = w.toNat % 256 := by
  simp only [loByte, BitVec.extractLsb'_toNat, Nat.shiftRight_zero]

@[simp] theorem hiByte_makeWord (hi lo : Byte) : hiByte (makeWord hi lo) = hi := by
  have := lo.isLt
  apply BitVec.eq_of_toNat_eq
  rw [hiByte_toNat, makeWord_toNat]
  omega

@[simp] theorem loByte_makeWord (hi lo : Byte) : loByte (makeWord hi lo) = lo := by
  have := lo.isLt
  apply BitVec.eq_of_toNat_eq
  rw [loByte_toNat, makeWord_toNat]
  omega

@[simp] theorem makeWord_hiByte_loByte (w : Word) : makeWord (hiByte w) (loByte w) = w := by
  apply BitVec.eq_of_toNat_eq
  rw [makeWord_toNat, hiByte_toNat, loByte_toNat]
  omega

/-- `s8` is the two's complement value of a byte. -/
theorem s8_eq_toInt (e : Byte) : s8 e = e.toInt := by
  have := e.isLt
  simp only [s8, BitVec.toInt_eq_toNat_cond]
  split <;> split <;> omega

/-- A displaced word, as a number. -/
theorem displace_toNat (w : Word) (e : Byte) : (displace w e).toNat = (((w.toNat : Int) + e.toInt) % 65536).toNat := by
  simp only [displace, s8_eq_toInt, BitVec.toNat_ofInt]
  rfl

end Sys2Proof

namespace Sys2Proof.Machine

/-! ### Flags -/

/-- F's low nibble is 0 whatever the flags are (10_state.md R24). -/
@[simp] theorem packFlags_lowNibble (fl : Flags) : packFlags fl &&& 0x0F = 0 := by
  obtain ⟨z, n, h, c⟩ := fl
  cases z <;> cases n <;> cases h <;> cases c <;> decide

/-- Where the flags lie in F (10_state.md R24). -/
theorem packFlags_bits (fl : Flags) :
    (packFlags fl).getLsbD 7 = fl.z ∧ (packFlags fl).getLsbD 6 = fl.n ∧ (packFlags fl).getLsbD 5 = fl.h ∧
      (packFlags fl).getLsbD 4 = fl.c := by
  obtain ⟨z, n, h, c⟩ := fl
  cases z <;> cases n <;> cases h <;> cases c <;> decide

/-- The flags written are the flags read. -/
@[simp] theorem State.flags_setFlags (s : State) (fl : Flags) : (s.setFlags fl).flags = fl := by
  obtain ⟨h7, h6, h5, h4⟩ := packFlags_bits fl
  simp only [State.flags, State.setFlags, h7, h6, h5, h4]

/-- The flags of a state are those of its F. -/
theorem State.flags_of_f {s t : State} (h : t.f = s.f) : t.flags = s.flags := by simp [State.flags, h]

/-- With an empty low nibble, masking F changes nothing (`POP AF` after `PUSH AF`). -/
theorem and_f0_of_lowNibble {v : Byte} (h : v &&& 0x0F = 0) : v &&& 0xF0 = v := by
  have hv : (v &&& 0xF0) ||| (v &&& 0x0F) = v &&& BitVec.allOnes 8 := BitVec.and_or_distrib_left.symm
  rw [h, BitVec.and_allOnes] at hv
  simpa using hv

/-- A masked byte has an empty low nibble. -/
@[simp] theorem and_f0_lowNibble (v : Byte) : v &&& 0xF0 &&& 0x0F = 0 := by
  rw [BitVec.and_assoc]
  simp

/-! ### Registers and pairs -/

/-- A pair written is the pair read. -/
@[simp] theorem State.pair_setPair (s : State) (rr : Pair) (w : Word) : (s.setPair rr w).pair rr = w := by
  cases rr
  · exact makeWord_hiByte_loByte w
  · exact makeWord_hiByte_loByte w
  · exact makeWord_hiByte_loByte w
  · rfl

/-- Memory reads look at memory alone. -/
theorem State.readByte_of_mem {s t : State} (h : t.mem = s.mem) (a : Word) : t.readByte a = s.readByte a := by
  simp [State.readByte, h]

/-! ### The shapes of the meanings, as one record update each -/

theorem State.loadA_eq (s : State) (addr : Word) (len m : Nat) :
    s.loadA addr len m =
      { s with a := s.readByte addr, pc := s.pc + BitVec.ofNat 16 len, mclk := s.mclk + m, tclk := s.tclk + 4 * m } := rfl

theorem State.storeA_eq (s : State) (addr : Word) (len m : Nat) :
    s.storeA addr len m =
      { s with mem := (s.writeByte addr s.a).mem, pc := s.pc + BitVec.ofNat 16 len, mclk := s.mclk + m,
               tclk := s.tclk + 4 * m } := rfl

theorem State.aluA_eq (s : State) (res : Byte × Flags) (len m : Nat) :
    s.aluA res len m =
      { s with a := res.1, f := packFlags res.2, pc := s.pc + BitVec.ofNat 16 len, mclk := s.mclk + m,
               tclk := s.tclk + 4 * m } := rfl

theorem State.compare_eq (s : State) (x : Byte) (len m : Nat) :
    s.compare x len m =
      { s with f := packFlags (sub8 s.a x false).2, pc := s.pc + BitVec.ofNat 16 len, mclk := s.mclk + m,
               tclk := s.tclk + 4 * m } := rfl

theorem State.rotateA_eq (s : State) (f : Byte → Byte × Bool) (m : Nat) :
    s.rotateA f m =
      { s with a := (f s.a).1, f := packFlags (rotateFlags (f s.a).2), pc := s.pc + 1, mclk := s.mclk + m,
               tclk := s.tclk + 4 * m } := rfl

theorem State.rotateReg_eq (s : State) (f : Byte → Byte × Bool) (r : Reg8) (m : Nat) :
    s.rotateReg f r m =
      (((s.advance 2).setReg8 r (f (s.reg8 r)).1).setFlags (rotateFlags (f (s.reg8 r)).2)).tick m := rfl

theorem State.rotateMemHl_eq (s : State) (f : Byte → Byte × Bool) (m : Nat) :
    s.rotateMemHl f m =
      { s with mem := (s.writeByte s.hl (f s.readHl).1).mem, f := packFlags (rotateFlags (f s.readHl).2), pc := s.pc + 2,
               mclk := s.mclk + m, tclk := s.tclk + 4 * m } := rfl

theorem State.stepMemHl_eq (s : State) (f : Byte → Bool → Byte × Flags) (m : Nat) :
    s.stepMemHl f m =
      { s with mem := (s.writeByte s.hl (f s.readHl s.flags.c).1).mem, f := packFlags (f s.readHl s.flags.c).2,
               pc := s.pc + 1, mclk := s.mclk + m, tclk := s.tclk + 4 * m } := rfl

theorem State.push16_eq (s : State) (w : Word) :
    s.push16 w = { s with sp := s.sp - 2, mem := (s.writeWord (s.sp - 2) w).mem } := rfl

theorem State.callTo_eq (s : State) (len : Nat) (target : Word) :
    s.callTo len target =
      { s with sp := s.sp - 2, pc := target, mem := (s.writeWord (s.sp - 2) (s.pc + BitVec.ofNat 16 len)).mem } := rfl

theorem State.return16_eq (s : State) : s.return16 = { s with sp := s.sp + 2, pc := s.readWord s.sp } := rfl

theorem State.returnFromInterrupt_eq (s : State) :
    s.returnFromInterrupt = { s with sp := s.sp + 2, pc := s.readWord s.sp, ime := true } := rfl

theorem State.jumpRelative_eq (s : State) (e : Byte) : s.jumpRelative e = { s with pc := displace (s.pc + 2) e } := rfl

theorem State.enterInterrupt_eq (s : State) (v : Word) (p : Params) :
    s.enterInterrupt v p =
      { s with irq := none, ime := false, halt := false, stop := false, sp := s.sp - 2, pc := v,
               mem := (s.writeWord (s.sp - 2) s.pc).mem, mclk := s.mclk + p.irqEntryMcycles,
               tclk := s.tclk + 4 * p.irqEntryMcycles } := rfl

/-- The word on top of the stack after a push is the word pushed. -/
theorem State.top16_push16 {s : State} (h : Memory.wf s.mem = true) (w : Word) : (s.push16 w).top16 = w := by
  have hne : s.sp - 2 ≠ s.sp - 2 + 1 := by bv_omega
  show makeWord ((s.push16 w).readByte (s.sp - 2 + 1)) ((s.push16 w).readByte (s.sp - 2)) = w
  rw [State.readByte_push16 h, State.readByte_push16 h, if_pos rfl, if_neg hne, if_pos rfl, makeWord_hiByte_loByte]

/-! ### Decoding and the step -/

/-- Three bytes always hold a whole instruction, the one that the fetch answers. -/
theorem decode_three (b0 b1 b2 : Byte) : ∃ rest, decode [b0, b1, b2] = .ok (instrOf b0 b1 b2, rest) := by
  simp only [decode, instrOf]
  cases primaryForm b0 <;> exact ⟨_, rfl⟩

/-- With `EI_DELAY` false nothing happens at the end of an instruction. -/
@[simp] theorem settle_eq (i : Instr) (res : Result) : settle Config.params i res = res := by
  cases res <;> rfl

/-- A slot that is not assigned is one of the 11 unassigned bytes, and its meaning raises IllegalOpcode with that byte. -/
theorem exec_of_unassigned {s : State} (h : s.assignedAtPc Config.params = false) :
    exec s.fetch s = raiseIllegalOpcode s.slotBytes s := by
  simp only [State.assignedAtPc, Config.params, Config.assigned] at h
  split at h
  · cases h
  · rename_i hcb
    simp only [Bool.not_eq_false', List.contains_iff_mem, List.mem_cons, List.not_mem_nil, or_false] at h
    simp only [State.fetch, State.slotBytes, if_neg hcb]
    rcases h with h | h | h | h | h | h | h | h | h | h | h <;> rw [h] <;> rfl

/-- The step of this model: a slot outside `ASSIGNED` needs no case of its own, since its meaning raises the same fault. -/
theorem step_eq (s : State) :
    step s =
      if s.init then
        match s.deliverable with
        | some v => .next (s.enterInterrupt v)
        | none => if s.suspended then .next s else exec s.fetch s
      else .refused .uninitializedSession := by
  cases hd : s.deliverable with
  | some v => simp [step, stepBy, hd]
  | none =>
    cases ha : s.assignedAtPc Config.params with
    | true => simp [step, stepBy, hd, ha]
    | false => simp [step, stepBy, hd, ha, exec_of_unassigned ha]

/-- Everything a step that answers a next state can have done (60_exceptions.md R300), with any parameters and any way to run
one instruction. -/
theorem stepBy_cases {p : Params} {run : Instr → State → Result} {s t : State} (h : stepBy p run s = .next t) :
    s.init = true ∧
      ((∃ v, s.ime = true ∧ s.irq = some v ∧ t = s.enterInterrupt v p) ∨
       (s.deliverable = none ∧ s.suspended = true ∧ t = s) ∨
       (s.deliverable = none ∧ s.suspended = false ∧ s.assignedAtPc p = true ∧
         settle p s.fetch (run s.fetch s) = .next t)) := by
  unfold stepBy at h
  split at h
  · refine ⟨‹_›, ?_⟩
    split at h
    · rename_i v hv
      simp only [State.deliverable] at hv
      split at hv
      · exact .inl ⟨v, ‹_›, hv, by cases h; rfl⟩
      · cases hv
    · split at h
      · exact .inr (.inl ⟨‹_›, ‹_›, by cases h; rfl⟩)
      · split at h
        · exact .inr (.inr ⟨‹_›, by simpa using ‹¬ s.suspended = true›, ‹_›, h⟩)
        · cases h
  · cases h

/-- The same for the step of this model. -/
theorem step_cases {s t : State} (h : step s = .next t) :
    s.init = true ∧
      ((∃ v, s.ime = true ∧ s.irq = some v ∧ t = s.enterInterrupt v) ∨
       (s.deliverable = none ∧ s.suspended = true ∧ t = s) ∨
       (s.deliverable = none ∧ s.suspended = false ∧ exec s.fetch s = .next t)) := by
  obtain ⟨hi, h | h | ⟨hd, hs, _, he⟩⟩ := stepBy_cases h
  · exact ⟨hi, .inl h⟩
  · exact ⟨hi, .inr (.inl h)⟩
  · exact ⟨hi, .inr (.inr ⟨hd, hs, by rwa [settle_eq] at he⟩)⟩

/-! ### What the host sees -/

/-- A snapshot does not look at the pending request (10_state.md R35). -/
@[simp] theorem State.snapshot_irq (s : State) (q : Option Word) (cells : List Word) :
    ({ s with irq := q }).snapshot cells = s.snapshot cells := rfl

/-- The reply to an admitted snapshot read is the view alone. -/
theorem hostReply_snapshot {x : Session} (h : x.core.init = true) (cells : List Word) (p : Params) :
    hostReply x (.snapshot cells) p = .ok { status := .ok, delta := 0, view := some (x.core.snapshot cells) } := by
  simp [hostReply, hostCall, snapshotCall, h, Answer.reply, Except.map]

/-! ### The parameters as an argument -/

/-- This model's values of the parameters (00_scope.md R8). -/
@[simp] theorem Config.params_eiDelay : Config.params.eiDelay = false := rfl
@[simp] theorem Config.params_irqEntryMcycles : Config.params.irqEntryMcycles = 5 := rfl
@[simp] theorem Config.params_highPage : Config.params.highPage = 0xFF := rfl
@[simp] theorem Config.params_rstVector (t : BitVec 3) : Config.params.rstVector t = BitVec.ofNat 16 (8 * t.toNat) := rfl

/-- This model's costs are the cost table. -/
@[simp] theorem Config.params_mcycles : Config.params.mcycles = mcycles := rfl

@[simp] theorem Params.cost_params (i : Instr) : Config.params.cost i = mcycles i true := rfl

/-- With this model's parameters the parametric meanings are the meanings. -/
@[simp] theorem execWith_params (i : Instr) (s : State) : execWith Config.params i s = exec i s := by
  cases i <;> rfl

/-- With this model's parameters the parametric step is the step. -/
@[simp] theorem stepWith_params (s : State) : stepWith Config.params s = step s := by
  have h : execWith Config.params = exec := by
    funext i s
    exact execWith_params i s
  rw [stepWith, h, step]

end Sys2Proof.Machine
end

