-- ==== Sys2Proof/Laws/PerInstr.lean ====
section
/-! SUPPORT. Facts about each instruction as syntax. -/

/-! ### `EncodingLength`: an instruction has as many bytes as its format says (30_encoding.md R71, R73) -/

def Sys2Proof.Laws.EncodingLength.Statement (i : Sys2Proof.Instr) : Prop :=
  (Sys2Proof.encode i).length = Sys2Proof.instrLength i

theorem Sys2Proof.Laws.EncodingLength.nop :
    Sys2Proof.Laws.EncodingLength.Statement (.nop) := rfl
theorem Sys2Proof.Laws.EncodingLength.ldRrNn (rr : Sys2Proof.Pair) (nn : Sys2Proof.Word) :
    Sys2Proof.Laws.EncodingLength.Statement (.ldRrNn rr nn) := rfl
theorem Sys2Proof.Laws.EncodingLength.ldMemBcA :
    Sys2Proof.Laws.EncodingLength.Statement (.ldMemBcA) := rfl
theorem Sys2Proof.Laws.EncodingLength.ldMemDeA :
    Sys2Proof.Laws.EncodingLength.Statement (.ldMemDeA) := rfl
theorem Sys2Proof.Laws.EncodingLength.ldAMemBc :
    Sys2Proof.Laws.EncodingLength.Statement (.ldAMemBc) := rfl
theorem Sys2Proof.Laws.EncodingLength.ldAMemDe :
    Sys2Proof.Laws.EncodingLength.Statement (.ldAMemDe) := rfl
theorem Sys2Proof.Laws.EncodingLength.ldMemHlIncA :
    Sys2Proof.Laws.EncodingLength.Statement (.ldMemHlIncA) := rfl
theorem Sys2Proof.Laws.EncodingLength.ldMemHlDecA :
    Sys2Proof.Laws.EncodingLength.Statement (.ldMemHlDecA) := rfl
theorem Sys2Proof.Laws.EncodingLength.ldAMemHlInc :
    Sys2Proof.Laws.EncodingLength.Statement (.ldAMemHlInc) := rfl
theorem Sys2Proof.Laws.EncodingLength.ldAMemHlDec :
    Sys2Proof.Laws.EncodingLength.Statement (.ldAMemHlDec) := rfl
theorem Sys2Proof.Laws.EncodingLength.incRr (rr : Sys2Proof.Pair) :
    Sys2Proof.Laws.EncodingLength.Statement (.incRr rr) := rfl
theorem Sys2Proof.Laws.EncodingLength.decRr (rr : Sys2Proof.Pair) :
    Sys2Proof.Laws.EncodingLength.Statement (.decRr rr) := rfl
theorem Sys2Proof.Laws.EncodingLength.incR (r : Sys2Proof.Reg8) :
    Sys2Proof.Laws.EncodingLength.Statement (.incR r) := rfl
theorem Sys2Proof.Laws.EncodingLength.incMemHl :
    Sys2Proof.Laws.EncodingLength.Statement (.incMemHl) := rfl
theorem Sys2Proof.Laws.EncodingLength.decR (r : Sys2Proof.Reg8) :
    Sys2Proof.Laws.EncodingLength.Statement (.decR r) := rfl
theorem Sys2Proof.Laws.EncodingLength.decMemHl :
    Sys2Proof.Laws.EncodingLength.Statement (.decMemHl) := rfl
theorem Sys2Proof.Laws.EncodingLength.ldRN (r : Sys2Proof.Reg8) (n : Sys2Proof.Byte) :
    Sys2Proof.Laws.EncodingLength.Statement (.ldRN r n) := rfl
theorem Sys2Proof.Laws.EncodingLength.ldMemHlN (n : Sys2Proof.Byte) :
    Sys2Proof.Laws.EncodingLength.Statement (.ldMemHlN n) := rfl
theorem Sys2Proof.Laws.EncodingLength.rlca :
    Sys2Proof.Laws.EncodingLength.Statement (.rlca) := rfl
theorem Sys2Proof.Laws.EncodingLength.rrca :
    Sys2Proof.Laws.EncodingLength.Statement (.rrca) := rfl
theorem Sys2Proof.Laws.EncodingLength.rla :
    Sys2Proof.Laws.EncodingLength.Statement (.rla) := rfl
theorem Sys2Proof.Laws.EncodingLength.rra :
    Sys2Proof.Laws.EncodingLength.Statement (.rra) := rfl
theorem Sys2Proof.Laws.EncodingLength.ldMemNnSp (nn : Sys2Proof.Word) :
    Sys2Proof.Laws.EncodingLength.Statement (.ldMemNnSp nn) := rfl
theorem Sys2Proof.Laws.EncodingLength.addHlRr (rr : Sys2Proof.Pair) :
    Sys2Proof.Laws.EncodingLength.Statement (.addHlRr rr) := rfl
theorem Sys2Proof.Laws.EncodingLength.stop :
    Sys2Proof.Laws.EncodingLength.Statement (.stop) := rfl
theorem Sys2Proof.Laws.EncodingLength.jrE (e : Sys2Proof.Byte) :
    Sys2Proof.Laws.EncodingLength.Statement (.jrE e) := rfl
theorem Sys2Proof.Laws.EncodingLength.jrCcE (cc : Sys2Proof.Cond) (e : Sys2Proof.Byte) :
    Sys2Proof.Laws.EncodingLength.Statement (.jrCcE cc e) := rfl
theorem Sys2Proof.Laws.EncodingLength.daa :
    Sys2Proof.Laws.EncodingLength.Statement (.daa) := rfl
theorem Sys2Proof.Laws.EncodingLength.cpl :
    Sys2Proof.Laws.EncodingLength.Statement (.cpl) := rfl
theorem Sys2Proof.Laws.EncodingLength.scf :
    Sys2Proof.Laws.EncodingLength.Statement (.scf) := rfl
theorem Sys2Proof.Laws.EncodingLength.ccf :
    Sys2Proof.Laws.EncodingLength.Statement (.ccf) := rfl
theorem Sys2Proof.Laws.EncodingLength.ldRR (r : Sys2Proof.Reg8) (r' : Sys2Proof.Reg8) :
    Sys2Proof.Laws.EncodingLength.Statement (.ldRR r r') := rfl
theorem Sys2Proof.Laws.EncodingLength.ldRMemHl (r : Sys2Proof.Reg8) :
    Sys2Proof.Laws.EncodingLength.Statement (.ldRMemHl r) := rfl
theorem Sys2Proof.Laws.EncodingLength.ldMemHlR (r : Sys2Proof.Reg8) :
    Sys2Proof.Laws.EncodingLength.Statement (.ldMemHlR r) := rfl
theorem Sys2Proof.Laws.EncodingLength.halt :
    Sys2Proof.Laws.EncodingLength.Statement (.halt) := rfl
theorem Sys2Proof.Laws.EncodingLength.addAR (r : Sys2Proof.Reg8) :
    Sys2Proof.Laws.EncodingLength.Statement (.addAR r) := rfl
theorem Sys2Proof.Laws.EncodingLength.addAMemHl :
    Sys2Proof.Laws.EncodingLength.Statement (.addAMemHl) := rfl
theorem Sys2Proof.Laws.EncodingLength.addAN (n : Sys2Proof.Byte) :
    Sys2Proof.Laws.EncodingLength.Statement (.addAN n) := rfl
theorem Sys2Proof.Laws.EncodingLength.adcAR (r : Sys2Proof.Reg8) :
    Sys2Proof.Laws.EncodingLength.Statement (.adcAR r) := rfl
theorem Sys2Proof.Laws.EncodingLength.adcAMemHl :
    Sys2Proof.Laws.EncodingLength.Statement (.adcAMemHl) := rfl
theorem Sys2Proof.Laws.EncodingLength.adcAN (n : Sys2Proof.Byte) :
    Sys2Proof.Laws.EncodingLength.Statement (.adcAN n) := rfl
theorem Sys2Proof.Laws.EncodingLength.subR (r : Sys2Proof.Reg8) :
    Sys2Proof.Laws.EncodingLength.Statement (.subR r) := rfl
theorem Sys2Proof.Laws.EncodingLength.subMemHl :
    Sys2Proof.Laws.EncodingLength.Statement (.subMemHl) := rfl
theorem Sys2Proof.Laws.EncodingLength.subN (n : Sys2Proof.Byte) :
    Sys2Proof.Laws.EncodingLength.Statement (.subN n) := rfl
theorem Sys2Proof.Laws.EncodingLength.sbcAR (r : Sys2Proof.Reg8) :
    Sys2Proof.Laws.EncodingLength.Statement (.sbcAR r) := rfl
theorem Sys2Proof.Laws.EncodingLength.sbcAMemHl :
    Sys2Proof.Laws.EncodingLength.Statement (.sbcAMemHl) := rfl
theorem Sys2Proof.Laws.EncodingLength.sbcAN (n : Sys2Proof.Byte) :
    Sys2Proof.Laws.EncodingLength.Statement (.sbcAN n) := rfl
theorem Sys2Proof.Laws.EncodingLength.andR (r : Sys2Proof.Reg8) :
    Sys2Proof.Laws.EncodingLength.Statement (.andR r) := rfl
theorem Sys2Proof.Laws.EncodingLength.andMemHl :
    Sys2Proof.Laws.EncodingLength.Statement (.andMemHl) := rfl
theorem Sys2Proof.Laws.EncodingLength.andN (n : Sys2Proof.Byte) :
    Sys2Proof.Laws.EncodingLength.Statement (.andN n) := rfl
theorem Sys2Proof.Laws.EncodingLength.xorR (r : Sys2Proof.Reg8) :
    Sys2Proof.Laws.EncodingLength.Statement (.xorR r) := rfl
theorem Sys2Proof.Laws.EncodingLength.xorMemHl :
    Sys2Proof.Laws.EncodingLength.Statement (.xorMemHl) := rfl
theorem Sys2Proof.Laws.EncodingLength.xorN (n : Sys2Proof.Byte) :
    Sys2Proof.Laws.EncodingLength.Statement (.xorN n) := rfl
theorem Sys2Proof.Laws.EncodingLength.orR (r : Sys2Proof.Reg8) :
    Sys2Proof.Laws.EncodingLength.Statement (.orR r) := rfl
theorem Sys2Proof.Laws.EncodingLength.orMemHl :
    Sys2Proof.Laws.EncodingLength.Statement (.orMemHl) := rfl
theorem Sys2Proof.Laws.EncodingLength.orN (n : Sys2Proof.Byte) :
    Sys2Proof.Laws.EncodingLength.Statement (.orN n) := rfl
theorem Sys2Proof.Laws.EncodingLength.cpR (r : Sys2Proof.Reg8) :
    Sys2Proof.Laws.EncodingLength.Statement (.cpR r) := rfl
theorem Sys2Proof.Laws.EncodingLength.cpMemHl :
    Sys2Proof.Laws.EncodingLength.Statement (.cpMemHl) := rfl
theorem Sys2Proof.Laws.EncodingLength.cpN (n : Sys2Proof.Byte) :
    Sys2Proof.Laws.EncodingLength.Statement (.cpN n) := rfl
theorem Sys2Proof.Laws.EncodingLength.retCc (cc : Sys2Proof.Cond) :
    Sys2Proof.Laws.EncodingLength.Statement (.retCc cc) := rfl
theorem Sys2Proof.Laws.EncodingLength.popQq (qq : Sys2Proof.StackPair) :
    Sys2Proof.Laws.EncodingLength.Statement (.popQq qq) := rfl
theorem Sys2Proof.Laws.EncodingLength.jpCcNn (cc : Sys2Proof.Cond) (nn : Sys2Proof.Word) :
    Sys2Proof.Laws.EncodingLength.Statement (.jpCcNn cc nn) := rfl
theorem Sys2Proof.Laws.EncodingLength.jpNn (nn : Sys2Proof.Word) :
    Sys2Proof.Laws.EncodingLength.Statement (.jpNn nn) := rfl
theorem Sys2Proof.Laws.EncodingLength.callCcNn (cc : Sys2Proof.Cond) (nn : Sys2Proof.Word) :
    Sys2Proof.Laws.EncodingLength.Statement (.callCcNn cc nn) := rfl
theorem Sys2Proof.Laws.EncodingLength.pushQq (qq : Sys2Proof.StackPair) :
    Sys2Proof.Laws.EncodingLength.Statement (.pushQq qq) := rfl
theorem Sys2Proof.Laws.EncodingLength.rstT (t : BitVec 3) :
    Sys2Proof.Laws.EncodingLength.Statement (.rstT t) := rfl
theorem Sys2Proof.Laws.EncodingLength.ret :
    Sys2Proof.Laws.EncodingLength.Statement (.ret) := rfl
theorem Sys2Proof.Laws.EncodingLength.prefixCb (op2 : Sys2Proof.Byte) :
    Sys2Proof.Laws.EncodingLength.Statement (.prefixCb op2) := rfl
theorem Sys2Proof.Laws.EncodingLength.callNn (nn : Sys2Proof.Word) :
    Sys2Proof.Laws.EncodingLength.Statement (.callNn nn) := rfl
theorem Sys2Proof.Laws.EncodingLength.reti :
    Sys2Proof.Laws.EncodingLength.Statement (.reti) := rfl
theorem Sys2Proof.Laws.EncodingLength.ldhMemNA (n : Sys2Proof.Byte) :
    Sys2Proof.Laws.EncodingLength.Statement (.ldhMemNA n) := rfl
theorem Sys2Proof.Laws.EncodingLength.ldhAMemN (n : Sys2Proof.Byte) :
    Sys2Proof.Laws.EncodingLength.Statement (.ldhAMemN n) := rfl
theorem Sys2Proof.Laws.EncodingLength.ldMemCA :
    Sys2Proof.Laws.EncodingLength.Statement (.ldMemCA) := rfl
theorem Sys2Proof.Laws.EncodingLength.ldAMemC :
    Sys2Proof.Laws.EncodingLength.Statement (.ldAMemC) := rfl
theorem Sys2Proof.Laws.EncodingLength.addSpE (e : Sys2Proof.Byte) :
    Sys2Proof.Laws.EncodingLength.Statement (.addSpE e) := rfl
theorem Sys2Proof.Laws.EncodingLength.jpHl :
    Sys2Proof.Laws.EncodingLength.Statement (.jpHl) := rfl
theorem Sys2Proof.Laws.EncodingLength.ldMemNnA (nn : Sys2Proof.Word) :
    Sys2Proof.Laws.EncodingLength.Statement (.ldMemNnA nn) := rfl
theorem Sys2Proof.Laws.EncodingLength.ldAMemNn (nn : Sys2Proof.Word) :
    Sys2Proof.Laws.EncodingLength.Statement (.ldAMemNn nn) := rfl
theorem Sys2Proof.Laws.EncodingLength.di :
    Sys2Proof.Laws.EncodingLength.Statement (.di) := rfl
theorem Sys2Proof.Laws.EncodingLength.ei :
    Sys2Proof.Laws.EncodingLength.Statement (.ei) := rfl
theorem Sys2Proof.Laws.EncodingLength.ldHlSpE (e : Sys2Proof.Byte) :
    Sys2Proof.Laws.EncodingLength.Statement (.ldHlSpE e) := rfl
theorem Sys2Proof.Laws.EncodingLength.ldSpHl :
    Sys2Proof.Laws.EncodingLength.Statement (.ldSpHl) := rfl
theorem Sys2Proof.Laws.EncodingLength.unassignedD3 :
    Sys2Proof.Laws.EncodingLength.Statement (.unassignedD3) := rfl
theorem Sys2Proof.Laws.EncodingLength.unassignedDB :
    Sys2Proof.Laws.EncodingLength.Statement (.unassignedDB) := rfl
theorem Sys2Proof.Laws.EncodingLength.unassignedDD :
    Sys2Proof.Laws.EncodingLength.Statement (.unassignedDD) := rfl
theorem Sys2Proof.Laws.EncodingLength.unassignedE3 :
    Sys2Proof.Laws.EncodingLength.Statement (.unassignedE3) := rfl
theorem Sys2Proof.Laws.EncodingLength.unassignedE4 :
    Sys2Proof.Laws.EncodingLength.Statement (.unassignedE4) := rfl
theorem Sys2Proof.Laws.EncodingLength.unassignedEB :
    Sys2Proof.Laws.EncodingLength.Statement (.unassignedEB) := rfl
theorem Sys2Proof.Laws.EncodingLength.unassignedEC :
    Sys2Proof.Laws.EncodingLength.Statement (.unassignedEC) := rfl
theorem Sys2Proof.Laws.EncodingLength.unassignedED :
    Sys2Proof.Laws.EncodingLength.Statement (.unassignedED) := rfl
theorem Sys2Proof.Laws.EncodingLength.unassignedF4 :
    Sys2Proof.Laws.EncodingLength.Statement (.unassignedF4) := rfl
theorem Sys2Proof.Laws.EncodingLength.unassignedFC :
    Sys2Proof.Laws.EncodingLength.Statement (.unassignedFC) := rfl
theorem Sys2Proof.Laws.EncodingLength.unassignedFD :
    Sys2Proof.Laws.EncodingLength.Statement (.unassignedFD) := rfl
theorem Sys2Proof.Laws.EncodingLength.rlcR (r : Sys2Proof.Reg8) :
    Sys2Proof.Laws.EncodingLength.Statement (.rlcR r) := rfl
theorem Sys2Proof.Laws.EncodingLength.rlcMemHl :
    Sys2Proof.Laws.EncodingLength.Statement (.rlcMemHl) := rfl
theorem Sys2Proof.Laws.EncodingLength.rrcR (r : Sys2Proof.Reg8) :
    Sys2Proof.Laws.EncodingLength.Statement (.rrcR r) := rfl
theorem Sys2Proof.Laws.EncodingLength.rrcMemHl :
    Sys2Proof.Laws.EncodingLength.Statement (.rrcMemHl) := rfl
theorem Sys2Proof.Laws.EncodingLength.rlR (r : Sys2Proof.Reg8) :
    Sys2Proof.Laws.EncodingLength.Statement (.rlR r) := rfl
theorem Sys2Proof.Laws.EncodingLength.rlMemHl :
    Sys2Proof.Laws.EncodingLength.Statement (.rlMemHl) := rfl
theorem Sys2Proof.Laws.EncodingLength.rrR (r : Sys2Proof.Reg8) :
    Sys2Proof.Laws.EncodingLength.Statement (.rrR r) := rfl
theorem Sys2Proof.Laws.EncodingLength.rrMemHl :
    Sys2Proof.Laws.EncodingLength.Statement (.rrMemHl) := rfl
theorem Sys2Proof.Laws.EncodingLength.slaR (r : Sys2Proof.Reg8) :
    Sys2Proof.Laws.EncodingLength.Statement (.slaR r) := rfl
theorem Sys2Proof.Laws.EncodingLength.slaMemHl :
    Sys2Proof.Laws.EncodingLength.Statement (.slaMemHl) := rfl
theorem Sys2Proof.Laws.EncodingLength.sraR (r : Sys2Proof.Reg8) :
    Sys2Proof.Laws.EncodingLength.Statement (.sraR r) := rfl
theorem Sys2Proof.Laws.EncodingLength.sraMemHl :
    Sys2Proof.Laws.EncodingLength.Statement (.sraMemHl) := rfl
theorem Sys2Proof.Laws.EncodingLength.swapR (r : Sys2Proof.Reg8) :
    Sys2Proof.Laws.EncodingLength.Statement (.swapR r) := rfl
theorem Sys2Proof.Laws.EncodingLength.swapMemHl :
    Sys2Proof.Laws.EncodingLength.Statement (.swapMemHl) := rfl
theorem Sys2Proof.Laws.EncodingLength.srlR (r : Sys2Proof.Reg8) :
    Sys2Proof.Laws.EncodingLength.Statement (.srlR r) := rfl
theorem Sys2Proof.Laws.EncodingLength.srlMemHl :
    Sys2Proof.Laws.EncodingLength.Statement (.srlMemHl) := rfl
theorem Sys2Proof.Laws.EncodingLength.bitR (b : BitVec 3) (r : Sys2Proof.Reg8) :
    Sys2Proof.Laws.EncodingLength.Statement (.bitR b r) := rfl
theorem Sys2Proof.Laws.EncodingLength.bitMemHl (b : BitVec 3) :
    Sys2Proof.Laws.EncodingLength.Statement (.bitMemHl b) := rfl
theorem Sys2Proof.Laws.EncodingLength.resR (b : BitVec 3) (r : Sys2Proof.Reg8) :
    Sys2Proof.Laws.EncodingLength.Statement (.resR b r) := rfl
theorem Sys2Proof.Laws.EncodingLength.resMemHl (b : BitVec 3) :
    Sys2Proof.Laws.EncodingLength.Statement (.resMemHl b) := rfl
theorem Sys2Proof.Laws.EncodingLength.setR (b : BitVec 3) (r : Sys2Proof.Reg8) :
    Sys2Proof.Laws.EncodingLength.Statement (.setR b r) := rfl
theorem Sys2Proof.Laws.EncodingLength.setMemHl (b : BitVec 3) :
    Sys2Proof.Laws.EncodingLength.Statement (.setMemHl b) := rfl
end

