-- ==== Sys2Proof/Tests/Slice0.lean ====
section
/-! SUPPORT. Small tests: the expected values are those of spec/95_test_vectors.md (named V<n>, X<n>) and of the encoding
table; and a witness for the hypotheses of every statement that has some. -/

namespace Sys2Proof.Tests

open Sys2Proof.Machine Sys2Proof.Safety Sys2Proof.Claims

/-! ### Helpers -/

/-- `s` with some bytes of memory set. -/
def poke (cells : List (Word × Byte)) (s : State) : State := cells.foldl (fun t cell => t.writeByte cell.1 cell.2) s

/-- The state after reset with PC at `at_` and the bytes from there on, modulo 65536. -/
def boot (at_ : Word) (bytes : List Byte) : State :=
  { poke (bytes.zipIdx.map fun cell => (at_ + BitVec.ofNat 16 cell.2, cell.1)) (State.resetAt 0x0100) with pc := at_ }

/-- One step from `s` ends in `f s` with the clocks advanced by `m` machine cycles, every field compared. -/
def ends (s : State) (f : State → State) (m : Nat) : Bool :=
  match step s with
  | .next t => decide (t = { f s with mclk := s.mclk + m, tclk := s.tclk + 4 * m })
  | _ => false

/-- One host call answers the core `f x.core`, with the status and the clock delta given. -/
def answers (x : Session) (k : HostCall) (f : State → State) (st : Status) (m : Nat) : Bool :=
  match hostCall x k with
  | .ok y =>
    decide (y.session.core = { f x.core with mclk := x.core.mclk + m, tclk := x.core.tclk + 4 * m }) &&
      decide (y.status = st) && decide (y.delta = m)
  | .error _ => false

/-- The call is refused for the reason given. -/
def refuses (x : Session) (k : HostCall) (r : Refusal) : Bool :=
  match hostCall x k with
  | .ok _ => false
  | .error r' => decide (r' = r)

/-- Each word decodes to its instruction with nothing left over, and is that instruction's encoding. -/
def decodesAll (l : List (List Byte × Instr)) : Bool :=
  l.all fun row =>
    match decode row.1 with
    | .ok (i, rest) => decide (i = row.2) && rest.isEmpty && decide (encode row.2 = row.1)
    | .error _ => false

/-- The state of several vectors: SP in memory, the interrupt enable set. -/
def enabled : State := { boot 0x0100 [0xDD] with sp := 0xD000, ime := true }

/-! ### Well-formedness: the one check refuses the term it is for -/

theorem test_wellformed_refuses_prefix_slot : WellFormed (.prefixCb 0x37) = false := by decide
theorem test_wellformed_admits_its_instruction : WellFormed (.swapR .a) = true := by decide

/-! ### Decoding: one word for every constructor, its bits written out from 30_encoding.md section 3 and 4 -/

theorem test_decode_singletons : decodesAll [
    ([0b00000000], .nop),
    ([0b00010000], .stop),
    ([0b00100111], .daa),
    ([0b00101111], .cpl),
    ([0b00110111], .scf),
    ([0b00111111], .ccf),
    ([0b01110110], .halt),
    ([0b11101000, 0b10100101], .addSpE 0xA5),
    ([0b11110011], .di),
    ([0b11111011], .ei),
    ([0b11111000, 0b10100101], .ldHlSpE 0xA5),
    ([0b11010011], .unassignedD3),
    ([0b11011011], .unassignedDB),
    ([0b11011101], .unassignedDD),
    ([0b11100011], .unassignedE3),
    ([0b11100100], .unassignedE4),
    ([0b11101011], .unassignedEB),
    ([0b11101100], .unassignedEC),
    ([0b11101101], .unassignedED),
    ([0b11110100], .unassignedF4),
    ([0b11111100], .unassignedFC),
    ([0b11111101], .unassignedFD)] = true := by decide

theorem test_decode_load : decodesAll [
    ([0b00100001, 0b00110100, 0b00010010], .ldRrNn .hl 0x1234),
    ([0b00000010], .ldMemBcA),
    ([0b00010010], .ldMemDeA),
    ([0b00001010], .ldAMemBc),
    ([0b00011010], .ldAMemDe),
    ([0b00100010], .ldMemHlIncA),
    ([0b00110010], .ldMemHlDecA),
    ([0b00101010], .ldAMemHlInc),
    ([0b00111010], .ldAMemHlDec),
    ([0b00001110, 0b10100101], .ldRN .c 0xA5),
    ([0b00110110, 0b10100101], .ldMemHlN 0xA5),
    ([0b00001000, 0b00110100, 0b00010010], .ldMemNnSp 0x1234),
    ([0b01111000], .ldRR .a .b),
    ([0b01100110], .ldRMemHl .h),
    ([0b01110010], .ldMemHlR .d),
    ([0b11100000, 0b10100101], .ldhMemNA 0xA5),
    ([0b11110000, 0b10100101], .ldhAMemN 0xA5),
    ([0b11100010], .ldMemCA),
    ([0b11110010], .ldAMemC),
    ([0b11101010, 0b00110100, 0b00010010], .ldMemNnA 0x1234),
    ([0b11111010, 0b00110100, 0b00010010], .ldAMemNn 0x1234),
    ([0b11111001], .ldSpHl)] = true := by decide

theorem test_decode_incdec : decodesAll [
    ([0b00110011], .incRr .sp),
    ([0b00001011], .decRr .bc),
    ([0b00010100], .incR .d),
    ([0b00110100], .incMemHl),
    ([0b00101101], .decR .l),
    ([0b00110101], .decMemHl)] = true := by decide

theorem test_decode_rotate : decodesAll [
    ([0b00000111], .rlca),
    ([0b00001111], .rrca),
    ([0b00010111], .rla),
    ([0b00011111], .rra),
    ([0b11001011, 0b00000011], .rlcR .e),
    ([0b11001011, 0b00000110], .rlcMemHl),
    ([0b11001011, 0b00001111], .rrcR .a),
    ([0b11001011, 0b00001110], .rrcMemHl),
    ([0b11001011, 0b00010010], .rlR .d),
    ([0b11001011, 0b00010110], .rlMemHl),
    ([0b11001011, 0b00011101], .rrR .l),
    ([0b11001011, 0b00011110], .rrMemHl),
    ([0b11001011, 0b00100001], .slaR .c),
    ([0b11001011, 0b00100110], .slaMemHl),
    ([0b11001011, 0b00101100], .sraR .h),
    ([0b11001011, 0b00101110], .sraMemHl),
    ([0b11001011, 0b00111011], .srlR .e),
    ([0b11001011, 0b00111110], .srlMemHl)] = true := by decide

theorem test_decode_arithmetic : decodesAll [
    ([0b00001001], .addHlRr .bc),
    ([0b10000101], .addAR .l),
    ([0b10000110], .addAMemHl),
    ([0b11000110, 0b10100101], .addAN 0xA5),
    ([0b10001111], .adcAR .a),
    ([0b10001110], .adcAMemHl),
    ([0b11001110, 0b10100101], .adcAN 0xA5),
    ([0b10010000], .subR .b),
    ([0b10010110], .subMemHl),
    ([0b11010110, 0b10100101], .subN 0xA5),
    ([0b10011001], .sbcAR .c),
    ([0b10011110], .sbcAMemHl),
    ([0b11011110, 0b10100101], .sbcAN 0xA5)] = true := by decide

theorem test_decode_control_flow : decodesAll [
    ([0b00011000, 0b10100101], .jrE 0xA5),
    ([0b00111000, 0b10100101], .jrCcE .c 0xA5),
    ([0b11000000], .retCc .nz),
    ([0b11010001], .popQq .de),
    ([0b11010010, 0b00110100, 0b00010010], .jpCcNn .nc 0x1234),
    ([0b11000011, 0b00110100, 0b00010010], .jpNn 0x1234),
    ([0b11000100, 0b00110100, 0b00010010], .callCcNn .nz 0x1234),
    ([0b11010101], .pushQq .de),
    ([0b11010111], .rstT 2),
    ([0b11001001], .ret),
    ([0b11001101, 0b00110100, 0b00010010], .callNn 0x1234),
    ([0b11011001], .reti),
    ([0b11101001], .jpHl)] = true := by decide

theorem test_decode_logical : decodesAll [
    ([0b10100010], .andR .d),
    ([0b10100110], .andMemHl),
    ([0b11100110, 0b10100101], .andN 0xA5),
    ([0b10101011], .xorR .e),
    ([0b10101110], .xorMemHl),
    ([0b11101110, 0b10100101], .xorN 0xA5),
    ([0b10110100], .orR .h),
    ([0b10110110], .orMemHl),
    ([0b11110110, 0b10100101], .orN 0xA5),
    ([0b10111101], .cpR .l),
    ([0b10111110], .cpMemHl),
    ([0b11111110, 0b10100101], .cpN 0xA5)] = true := by decide

theorem test_decode_extended_bit : decodesAll [
    ([0b11001011, 0b00110000], .swapR .b),
    ([0b11001011, 0b00110110], .swapMemHl),
    ([0b11001011, 0b01101111], .bitR 5 .a),
    ([0b11001011, 0b01110110], .bitMemHl 6),
    ([0b11001011, 0b10111010], .resR 7 .d),
    ([0b11001011, 0b10000110], .resMemHl 0),
    ([0b11001011, 0b11000101], .setR 0 .l),
    ([0b11001011, 0b11010110], .setMemHl 2)] = true := by decide

/-- The prefix by itself is no instruction; its slot runs the extended instruction of the second byte. -/
theorem test_decode_prefix_alone : decode [0xCB] = .error .truncated := by rfl
theorem test_decode_immediate_missing : decode [0xC3, 0x50] = .error .truncated := by rfl
theorem test_prefix_slot_dispatches (s : State) : exec (.prefixCb 0x37) s = exec (.swapR .a) s := by rfl

/-! ### The host's two questions, on a row's word -/

theorem test_table_word_jp : decodeTableWord 24 0x0150C3 = some (.jpNn 0x0150) := by decide
theorem test_table_word_short : decodeTableWord 8 0xC3 = some (.jpNn 0x0000) := by decide
theorem test_table_word_extended : decodeTableWord 16 0x37CB = some (.swapR .a) := by decide
theorem test_fetch_word_runs :
    ends (State.reset.withFetchWord 16 0x423E) (fun s => { s with a := 0x42, pc := 0x0102 }) 2 = true := by decide

/-! ## One step per vector of 95_test_vectors.md section 2 -/

/-! ### Load (V100 to V128) -/

theorem test_V100_ld_b_c :
    ends { boot 0x0100 [0x41] with c := 0x5A } (fun s => { s with b := 0x5A, pc := 0x0101 }) 1 = true := by decide
theorem test_V102_ld_h_l :
    ends { boot 0x0100 [0x65] with h := 0x12, l := 0x34 }
      (fun s => { s with h := 0x34, pc := 0x0101 }) 1 = true := by decide
theorem test_V103_ld_d_0xff :
    ends (boot 0x0100 [0x16, 0xFF]) (fun s => { s with d := 0xFF, pc := 0x0102 }) 2 = true := by decide
theorem test_V105_ld_h_mem_hl :
    ends { poke [(0xC010, 0x99)] (boot 0x0100 [0x66]) with h := 0xC0, l := 0x10 }
      (fun s => { s with h := 0x99, pc := 0x0101 }) 2 = true := by decide
theorem test_V106_ld_mem_hl_l :
    ends { boot 0x0100 [0x75] with h := 0xC0, l := 0x10 }
      (fun s => { poke [(0xC010, 0x10)] s with pc := 0x0101 }) 2 = true := by decide
theorem test_V107_ld_mem_hl_0x42 :
    ends { boot 0x0100 [0x36, 0x42] with h := 0xC0, l := 0x00 }
      (fun s => { poke [(0xC000, 0x42)] s with pc := 0x0102 }) 3 = true := by decide
theorem test_V108_ld_a_mem_bc :
    ends { poke [(0xC001, 0xAB)] (boot 0x0100 [0x0A]) with b := 0xC0, c := 0x01 }
      (fun s => { s with a := 0xAB, pc := 0x0101 }) 2 = true := by decide
theorem test_V109_ld_a_mem_de :
    ends { poke [(0xFFFF, 0x01)] (boot 0x0100 [0x1A]) with d := 0xFF, e := 0xFF }
      (fun s => { s with a := 0x01, pc := 0x0101 }) 2 = true := by decide
theorem test_V110_ld_mem_bc_a :
    ends { boot 0x0100 [0x02] with a := 0xCD, b := 0xC1, c := 0x00 }
      (fun s => { poke [(0xC100, 0xCD)] s with pc := 0x0101 }) 2 = true := by decide
theorem test_V111_ld_mem_de_a :
    ends { boot 0x0100 [0x12] with a := 0xCD, d := 0xC1, e := 0x01 }
      (fun s => { poke [(0xC101, 0xCD)] s with pc := 0x0101 }) 2 = true := by decide
theorem test_V112_ld_a_mem_hl_inc :
    ends { poke [(0xFFFF, 0x5C)] (boot 0x0100 [0x2A]) with h := 0xFF, l := 0xFF }
      (fun s => { s with a := 0x5C, h := 0x00, l := 0x00, pc := 0x0101 }) 2 = true := by decide
theorem test_V113_ld_a_mem_hl_dec :
    ends { poke [(0x0000, 0x3C)] (boot 0x0100 [0x3A]) with h := 0x00, l := 0x00 }
      (fun s => { s with a := 0x3C, h := 0xFF, l := 0xFF, pc := 0x0101 }) 2 = true := by decide
theorem test_V114_ld_mem_hl_inc_a :
    ends { boot 0x0100 [0x22] with a := 0x33, h := 0xC0, l := 0xFF }
      (fun s => { poke [(0xC0FF, 0x33)] s with h := 0xC1, l := 0x00, pc := 0x0101 }) 2 = true := by decide
theorem test_V115_ld_mem_hl_dec_a :
    ends { boot 0x0100 [0x32] with a := 0x44, h := 0xC1, l := 0x00 }
      (fun s => { poke [(0xC100, 0x44)] s with h := 0xC0, l := 0xFF, pc := 0x0101 }) 2 = true := by decide
theorem test_V116_ldh_a_mem_0x80 :
    ends (poke [(0xFF80, 0x9E)] (boot 0x0100 [0xF0, 0x80]))
      (fun s => { s with a := 0x9E, pc := 0x0102 }) 3 = true := by decide
theorem test_V117_ldh_mem_0x44_a :
    ends { boot 0x0100 [0xE0, 0x44] with a := 0x91 }
      (fun s => { poke [(0xFF44, 0x91)] s with pc := 0x0102 }) 3 = true := by decide
theorem test_V118_ld_a_mem_c :
    ends { poke [(0xFFFF, 0x1F)] (boot 0x0100 [0xF2]) with c := 0xFF }
      (fun s => { s with a := 0x1F, pc := 0x0101 }) 2 = true := by decide
theorem test_V119_ld_mem_c_a :
    ends { boot 0x0100 [0xE2] with a := 0x08, c := 0x00 }
      (fun s => { poke [(0xFF00, 0x08)] s with pc := 0x0101 }) 2 = true := by decide
theorem test_V120_ld_a_mem_0xc000 :
    ends (poke [(0xC000, 0x77)] (boot 0x0100 [0xFA, 0x00, 0xC0]))
      (fun s => { s with a := 0x77, pc := 0x0103 }) 3 = true := by decide
theorem test_V121_ld_mem_0xc000_a :
    ends { boot 0x0100 [0xEA, 0x00, 0xC0] with a := 0x0F }
      (fun s => { poke [(0xC000, 0x0F)] s with pc := 0x0103 }) 3 = true := by decide
theorem test_V123_ld_sp_0xfffe :
    ends (boot 0x0100 [0x31, 0xFE, 0xFF]) (fun s => { s with sp := 0xFFFE, pc := 0x0103 }) 3 = true := by decide
theorem test_V128_ld_de_nn :
    ends (boot 0xFFFE [0x11, 0xCD, 0xAB])
      (fun s => { s with d := 0xAB, e := 0xCD, pc := 0x0001 }) 3 = true := by decide
theorem test_V126_ld_mem_0xffff_sp :
    ends { boot 0x0100 [0x08, 0xFF, 0xFF] with sp := 0x1234 }
      (fun s => { poke [(0x0000, 0x12), (0xFFFF, 0x34)] s with pc := 0x0103 }) 5 = true := by decide
theorem test_V127_ld_sp_hl :
    ends { boot 0x0100 [0xF9] with h := 0xD0, l := 0x00 }
      (fun s => { s with sp := 0xD000, pc := 0x0101 }) 2 = true := by decide

/-! ### Increment and decrement (V140 to V155) -/

theorem test_V140_inc_b :
    ends { boot 0x0100 [0x04] with b := 0x0F, f := 0x10 }
      (fun s => { s with b := 0x10, f := 0x30, pc := 0x0101 }) 1 = true := by decide
theorem test_V142_inc_l :
    ends { boot 0x0100 [0x2C] with l := 0x00, f := 0xE0 }
      (fun s => { s with l := 0x01, f := 0x00, pc := 0x0101 }) 1 = true := by decide
theorem test_V143_inc_mem_hl :
    ends { poke [(0xC000, 0x0F)] (boot 0x0100 [0x34]) with h := 0xC0, l := 0x00 }
      (fun s => { poke [(0xC000, 0x10)] s with f := 0x20, pc := 0x0101 }) 3 = true := by decide
theorem test_V144_inc_mem_hl :
    ends { poke [(0xC000, 0xFF)] (boot 0x0100 [0x34]) with h := 0xC0, l := 0x00, f := 0x10 }
      (fun s => { poke [(0xC000, 0x00)] s with f := 0xB0, pc := 0x0101 }) 3 = true := by decide
theorem test_V145_dec_b :
    ends { boot 0x0100 [0x05] with b := 0x01 }
      (fun s => { s with b := 0x00, f := 0xC0, pc := 0x0101 }) 1 = true := by decide
theorem test_V147_dec_a :
    ends { boot 0x0100 [0x3D] with a := 0x10 }
      (fun s => { s with a := 0x0F, f := 0x60, pc := 0x0101 }) 1 = true := by decide
theorem test_V148_dec_mem_hl :
    ends { poke [(0xC000, 0x01)] (boot 0x0100 [0x35]) with h := 0xC0, l := 0x00 }
      (fun s => { poke [(0xC000, 0x00)] s with f := 0xC0, pc := 0x0101 }) 3 = true := by decide
theorem test_V149_dec_mem_hl :
    ends { poke [(0xC000, 0x00)] (boot 0x0100 [0x35]) with h := 0xC0, l := 0x00 }
      (fun s => { poke [(0xC000, 0xFF)] s with f := 0x60, pc := 0x0101 }) 3 = true := by decide
theorem test_V150_inc_bc :
    ends { boot 0x0100 [0x03] with b := 0xFF, c := 0xFF, f := 0xF0 }
      (fun s => { s with b := 0x00, c := 0x00, pc := 0x0101 }) 2 = true := by decide
theorem test_V152_inc_sp :
    ends { boot 0x0100 [0x33] with sp := 0xFFFF }
      (fun s => { s with sp := 0x0000, pc := 0x0101 }) 2 = true := by decide
theorem test_V153_dec_sp :
    ends { boot 0x0100 [0x3B] with sp := 0x0000 }
      (fun s => { s with sp := 0xFFFF, pc := 0x0101 }) 2 = true := by decide
theorem test_V154_dec_de :
    ends { boot 0x0100 [0x1B] with d := 0x01, e := 0x00, f := 0x80 }
      (fun s => { s with d := 0x00, e := 0xFF, pc := 0x0101 }) 2 = true := by decide

/-! ### Arithmetic (V160 to V183) -/

theorem test_V160_add_a_b :
    ends { boot 0x0100 [0x80] with a := 0x3A, b := 0xC6 }
      (fun s => { s with a := 0x00, f := 0xB0, pc := 0x0101 }) 1 = true := by decide
theorem test_V162_add_a_c :
    ends { boot 0x0100 [0x81] with a := 0x0F, c := 0x01, f := 0xD0 }
      (fun s => { s with a := 0x10, f := 0x20, pc := 0x0101 }) 1 = true := by decide
theorem test_V163_add_a_mem_hl :
    ends { poke [(0xC000, 0x12)] (boot 0x0100 [0x86]) with a := 0x3C, h := 0xC0, l := 0x00 }
      (fun s => { s with a := 0x4E, pc := 0x0101 }) 2 = true := by decide
theorem test_V164_add_a_0xff :
    ends { boot 0x0100 [0xC6, 0xFF] with a := 0x3C }
      (fun s => { s with a := 0x3B, f := 0x30, pc := 0x0102 }) 2 = true := by decide
theorem test_V165_adc_a_e :
    ends { boot 0x0100 [0x8B] with a := 0xE1, e := 0x0F, f := 0x10 }
      (fun s => { s with a := 0xF1, f := 0x20, pc := 0x0101 }) 1 = true := by decide
theorem test_V166_adc_a_b :
    ends { boot 0x0100 [0x88] with a := 0xFF, b := 0x00, f := 0x10 }
      (fun s => { s with a := 0x00, f := 0xB0, pc := 0x0101 }) 1 = true := by decide
theorem test_V167_adc_a_mem_hl :
    ends { poke [(0xC000, 0x1E)] (boot 0x0100 [0x8E]) with a := 0xE1, h := 0xC0, l := 0x00, f := 0x10 }
      (fun s => { s with a := 0x00, f := 0xB0, pc := 0x0101 }) 2 = true := by decide
theorem test_V168_adc_a_0x3b :
    ends { boot 0x0100 [0xCE, 0x3B] with a := 0xE1, f := 0x10 }
      (fun s => { s with a := 0x1D, pc := 0x0102 }) 2 = true := by decide
theorem test_V169_adc_a_0x0f :
    ends { boot 0x0100 [0xCE, 0x0F] with a := 0x00, f := 0x10 }
      (fun s => { s with a := 0x10, f := 0x20, pc := 0x0102 }) 2 = true := by decide
theorem test_V170_sub_e :
    ends { boot 0x0100 [0x93] with a := 0x3E, e := 0x3E }
      (fun s => { s with a := 0x00, f := 0xC0, pc := 0x0101 }) 1 = true := by decide
theorem test_V171_sub_a :
    ends { boot 0x0100 [0x97] with a := 0x7B, f := 0x10 }
      (fun s => { s with a := 0x00, f := 0xC0, pc := 0x0101 }) 1 = true := by decide
theorem test_V172_sub_mem_hl :
    ends { poke [(0xC000, 0x40)] (boot 0x0100 [0x96]) with a := 0x3E, h := 0xC0, l := 0x00 }
      (fun s => { s with a := 0xFE, f := 0x50, pc := 0x0101 }) 2 = true := by decide
theorem test_V173_sub_0x0f :
    ends { boot 0x0100 [0xD6, 0x0F] with a := 0x3E }
      (fun s => { s with a := 0x2F, f := 0x60, pc := 0x0102 }) 2 = true := by decide
theorem test_V174_sbc_a_h :
    ends { boot 0x0100 [0x9C] with a := 0x3B, h := 0x2A, f := 0x10 }
      (fun s => { s with a := 0x10, f := 0x40, pc := 0x0101 }) 1 = true := by decide
theorem test_V178_sbc_a_a :
    ends { boot 0x0100 [0x9F] with a := 0x55, f := 0x10 }
      (fun s => { s with a := 0xFF, f := 0x70, pc := 0x0101 }) 1 = true := by decide
theorem test_V176_sbc_a_mem_hl :
    ends { poke [(0xC000, 0x4F)] (boot 0x0100 [0x9E]) with a := 0x3B, h := 0xC0, l := 0x00, f := 0x10 }
      (fun s => { s with a := 0xEB, f := 0x70, pc := 0x0101 }) 2 = true := by decide
theorem test_V177_sbc_a_0x3a :
    ends { boot 0x0100 [0xDE, 0x3A] with a := 0x3B, f := 0x10 }
      (fun s => { s with a := 0x00, f := 0xC0, pc := 0x0102 }) 2 = true := by decide
theorem test_V179_add_hl_bc :
    ends { boot 0x0100 [0x09] with h := 0x8A, l := 0x23, b := 0x06, c := 0x05, f := 0xC0 }
      (fun s => { s with h := 0x90, l := 0x28, pc := 0x0101 }) 2 = true := by decide
theorem test_V182_add_hl_sp :
    ends { boot 0x0100 [0x39] with h := 0xFF, l := 0xFF, sp := 0x0001, f := 0x80 }
      (fun s => { s with h := 0x00, l := 0x00, f := 0xB0, pc := 0x0101 }) 2 = true := by decide

/-! ### Logical (V190 to V207) -/

theorem test_V190_and_l :
    ends { boot 0x0100 [0xA5] with a := 0x5A, l := 0x3F, f := 0x50 }
      (fun s => { s with a := 0x1A, f := 0x20, pc := 0x0101 }) 1 = true := by decide
theorem test_V192_and_a :
    ends { boot 0x0100 [0xA7] with a := 0x00 } (fun s => { s with f := 0xA0, pc := 0x0101 }) 1 = true := by decide
theorem test_V193_and_mem_hl :
    ends { poke [(0xC000, 0x18)] (boot 0x0100 [0xA6]) with a := 0x5A, h := 0xC0, l := 0x00 }
      (fun s => { s with a := 0x18, f := 0x20, pc := 0x0101 }) 2 = true := by decide
theorem test_V194_and_0x38 :
    ends { boot 0x0100 [0xE6, 0x38] with a := 0x5A }
      (fun s => { s with a := 0x18, f := 0x20, pc := 0x0102 }) 2 = true := by decide
theorem test_V195_xor_a :
    ends { boot 0x0100 [0xAF] with a := 0xA7, f := 0xF0 }
      (fun s => { s with a := 0x00, f := 0x80, pc := 0x0101 }) 1 = true := by decide
theorem test_V197_xor_mem_hl :
    ends { poke [(0xC000, 0x8A)] (boot 0x0100 [0xAE]) with a := 0xFF, h := 0xC0, l := 0x00 }
      (fun s => { s with a := 0x75, pc := 0x0101 }) 2 = true := by decide
theorem test_V198_xor_0xff :
    ends { boot 0x0100 [0xEE, 0xFF] with a := 0xFF, f := 0x10 }
      (fun s => { s with a := 0x00, f := 0x80, pc := 0x0102 }) 2 = true := by decide
theorem test_V199_or_a :
    ends { boot 0x0100 [0xB7] with a := 0x5A, f := 0xF0 }
      (fun s => { s with f := 0x00, pc := 0x0101 }) 1 = true := by decide
theorem test_V200_or_b :
    ends { boot 0x0100 [0xB0] with a := 0x00, b := 0x00, f := 0x70 }
      (fun s => { s with f := 0x80, pc := 0x0101 }) 1 = true := by decide
theorem test_V201_or_mem_hl :
    ends { poke [(0xC000, 0x0F)] (boot 0x0100 [0xB6]) with a := 0x5A, h := 0xC0, l := 0x00 }
      (fun s => { s with a := 0x5F, pc := 0x0101 }) 2 = true := by decide
theorem test_V202_or_0x03 :
    ends { boot 0x0100 [0xF6, 0x03] with a := 0x5A }
      (fun s => { s with a := 0x5B, pc := 0x0102 }) 2 = true := by decide
theorem test_V203_cp_b :
    ends { boot 0x0100 [0xB8] with a := 0x3C, b := 0x2F }
      (fun s => { s with f := 0x60, pc := 0x0101 }) 1 = true := by decide
theorem test_V204_cp_a :
    ends { boot 0x0100 [0xBF] with a := 0x3C } (fun s => { s with f := 0xC0, pc := 0x0101 }) 1 = true := by decide
theorem test_V205_cp_mem_hl :
    ends { poke [(0xC000, 0x40)] (boot 0x0100 [0xBE]) with a := 0x3C, h := 0xC0, l := 0x00 }
      (fun s => { s with f := 0x50, pc := 0x0101 }) 2 = true := by decide
theorem test_V206_cp_0x3c :
    ends { boot 0x0100 [0xFE, 0x3C] with a := 0x3C, f := 0x10 }
      (fun s => { s with f := 0xC0, pc := 0x0102 }) 2 = true := by decide
theorem test_V207_cp_0x01 :
    ends { boot 0x0100 [0xFE, 0x01] with a := 0x00 }
      (fun s => { s with f := 0x70, pc := 0x0102 }) 2 = true := by decide

/-! ### Rotate and shift (V210 to V234) -/

theorem test_V210_rlca :
    ends { boot 0x0100 [0x07] with a := 0x85, f := 0xE0 }
      (fun s => { s with a := 0x0B, f := 0x10, pc := 0x0101 }) 1 = true := by decide
theorem test_V211_rlca :
    ends { boot 0x0100 [0x07] with a := 0x00, f := 0xF0 }
      (fun s => { s with f := 0x00, pc := 0x0101 }) 1 = true := by decide
theorem test_V212_rla :
    ends { boot 0x0100 [0x17] with a := 0x95, f := 0x10 }
      (fun s => { s with a := 0x2B, pc := 0x0101 }) 1 = true := by decide
theorem test_V213_rla :
    ends { boot 0x0100 [0x17] with a := 0x80, f := 0x00 }
      (fun s => { s with a := 0x00, f := 0x10, pc := 0x0101 }) 1 = true := by decide
theorem test_V214_rrca :
    ends { boot 0x0100 [0x0F] with a := 0x3B }
      (fun s => { s with a := 0x9D, f := 0x10, pc := 0x0101 }) 1 = true := by decide
theorem test_V215_rra :
    ends { boot 0x0100 [0x1F] with a := 0x81, f := 0x00 }
      (fun s => { s with a := 0x40, f := 0x10, pc := 0x0101 }) 1 = true := by decide
theorem test_V216_rra :
    ends { boot 0x0100 [0x1F] with a := 0x00, f := 0x10 }
      (fun s => { s with a := 0x80, f := 0x00, pc := 0x0101 }) 1 = true := by decide
theorem test_V217_rlc_b :
    ends { boot 0x0100 [0xCB, 0x00] with b := 0x85 }
      (fun s => { s with b := 0x0B, f := 0x10, pc := 0x0102 }) 2 = true := by decide
theorem test_V218_rlc_mem_hl :
    ends { poke [(0xC000, 0x00)] (boot 0x0100 [0xCB, 0x06]) with h := 0xC0, l := 0x00, f := 0xF0 }
      (fun s => { s with f := 0x00, pc := 0x0102 }) 4 = true := by decide
theorem test_V219_rrc_c :
    ends { boot 0x0100 [0xCB, 0x09] with c := 0x01 }
      (fun s => { s with c := 0x80, f := 0x10, pc := 0x0102 }) 2 = true := by decide
theorem test_V220_rrc_mem_hl :
    ends { poke [(0xC000, 0x02)] (boot 0x0100 [0xCB, 0x0E]) with h := 0xC0, l := 0x00 }
      (fun s => { poke [(0xC000, 0x01)] s with pc := 0x0102 }) 4 = true := by decide
theorem test_V221_rl_l :
    ends { boot 0x0100 [0xCB, 0x15] with l := 0x80 }
      (fun s => { s with l := 0x00, f := 0x10, pc := 0x0102 }) 2 = true := by decide
theorem test_V222_rl_a :
    ends { boot 0x0100 [0xCB, 0x17] with a := 0x40, f := 0x10 }
      (fun s => { s with a := 0x81, f := 0x00, pc := 0x0102 }) 2 = true := by decide
theorem test_V223_rl_mem_hl :
    ends { poke [(0xC000, 0x11)] (boot 0x0100 [0xCB, 0x16]) with h := 0xC0, l := 0x00 }
      (fun s => { poke [(0xC000, 0x22)] s with pc := 0x0102 }) 4 = true := by decide
theorem test_V224_rr_a :
    ends { boot 0x0100 [0xCB, 0x1F] with a := 0x01 }
      (fun s => { s with a := 0x00, f := 0x10, pc := 0x0102 }) 2 = true := by decide
theorem test_V225_rr_d :
    ends { boot 0x0100 [0xCB, 0x1A] with d := 0x00, f := 0x10 }
      (fun s => { s with d := 0x80, f := 0x00, pc := 0x0102 }) 2 = true := by decide
theorem test_V226_rr_mem_hl :
    ends { poke [(0xC000, 0x8A)] (boot 0x0100 [0xCB, 0x1E]) with h := 0xC0, l := 0x00, f := 0x10 }
      (fun s => { poke [(0xC000, 0xC5)] s with f := 0x00, pc := 0x0102 }) 4 = true := by decide
theorem test_V227_sla_d :
    ends { boot 0x0100 [0xCB, 0x22] with d := 0x80 }
      (fun s => { s with d := 0x00, f := 0x10, pc := 0x0102 }) 2 = true := by decide
theorem test_V228_sla_mem_hl :
    ends { poke [(0xC000, 0xFF)] (boot 0x0100 [0xCB, 0x26]) with h := 0xC0, l := 0x00 }
      (fun s => { poke [(0xC000, 0xFE)] s with f := 0x10, pc := 0x0102 }) 4 = true := by decide
theorem test_V229_sra_a :
    ends { boot 0x0100 [0xCB, 0x2F] with a := 0x8A }
      (fun s => { s with a := 0xC5, pc := 0x0102 }) 2 = true := by decide
theorem test_V230_sra_e :
    ends { boot 0x0100 [0xCB, 0x2B] with e := 0x01 }
      (fun s => { s with e := 0x00, f := 0x10, pc := 0x0102 }) 2 = true := by decide
theorem test_V231_sra_mem_hl :
    ends { poke [(0xC000, 0xFF)] (boot 0x0100 [0xCB, 0x2E]) with h := 0xC0, l := 0x00 }
      (fun s => { s with f := 0x10, pc := 0x0102 }) 4 = true := by decide
theorem test_V232_srl_a :
    ends { boot 0x0100 [0xCB, 0x3F] with a := 0x01 }
      (fun s => { s with a := 0x00, f := 0x10, pc := 0x0102 }) 2 = true := by decide
theorem test_V233_srl_h :
    ends { boot 0x0100 [0xCB, 0x3C] with h := 0xFF, f := 0xE0 }
      (fun s => { s with h := 0x7F, f := 0x10, pc := 0x0102 }) 2 = true := by decide
theorem test_V234_srl_mem_hl :
    ends { poke [(0xC000, 0x80)] (boot 0x0100 [0xCB, 0x3E]) with h := 0xC0, l := 0x00 }
      (fun s => { poke [(0xC000, 0x40)] s with pc := 0x0102 }) 4 = true := by decide

/-! ### Control flow and stack (V240 to V271) -/

theorem test_V241_push_af :
    ends { boot 0x0100 [0xF5] with a := 0x9C, f := 0xB0, sp := 0xD000 }
      (fun s => { poke [(0xCFFE, 0xB0), (0xCFFF, 0x9C)] s with sp := 0xCFFE, pc := 0x0101 }) 4 = true := by decide
theorem test_V243_push_de :
    ends { boot 0x0100 [0xD5] with d := 0xAB, e := 0xCD, sp := 0x0001 }
      (fun s => { poke [(0x0000, 0xAB), (0xFFFF, 0xCD)] s with sp := 0xFFFF, pc := 0x0101 }) 4 = true := by decide
theorem test_V245_pop_af :
    ends { poke [(0xFFFC, 0xFF), (0xFFFD, 0x12)] (boot 0x0100 [0xF1]) with sp := 0xFFFC }
      (fun s => { s with a := 0x12, f := 0xF0, sp := 0xFFFE, pc := 0x0101 }) 3 = true := by decide
theorem test_V246_pop_hl :
    ends { poke [(0xFFFF, 0x34), (0x0000, 0x12)] (boot 0x0100 [0xE1]) with sp := 0xFFFF }
      (fun s => { s with h := 0x12, l := 0x34, sp := 0x0001, pc := 0x0101 }) 3 = true := by decide
theorem test_V247_jp_0x0150 :
    ends (boot 0x0100 [0xC3, 0x50, 0x01]) (fun s => { s with pc := 0x0150 }) 4 = true := by decide
theorem test_V249_jp_nz_0x0200 :
    ends { boot 0x0100 [0xC2, 0x00, 0x02] with f := 0x80 } (fun s => { s with pc := 0x0103 }) 3 = true := by decide
theorem test_V250_jp_c_0x8000 :
    ends { boot 0x0100 [0xDA, 0x00, 0x80] with f := 0x10 } (fun s => { s with pc := 0x8000 }) 4 = true := by decide
theorem test_V251_jp_mem_hl :
    ends { poke [(0xC000, 0x34), (0xC001, 0x12)] (boot 0x0100 [0xE9]) with h := 0xC0, l := 0x00 }
      (fun s => { s with pc := 0xC000 }) 1 = true := by decide
theorem test_V254_jr_m128 :
    ends (boot 0x0100 [0x18, 0x80]) (fun s => { s with pc := 0x0082 }) 3 = true := by decide
theorem test_V255_jr_0x10 :
    ends (boot 0xFFFE [0x18, 0x10]) (fun s => { s with pc := 0x0010 }) 3 = true := by decide
theorem test_V256_jr_nz_m3 :
    ends { boot 0x0100 [0x20, 0xFD] with f := 0x00 } (fun s => { s with pc := 0x00FF }) 3 = true := by decide
theorem test_V259_jr_nc_2 :
    ends { boot 0x0100 [0x30, 0x02] with f := 0x10 } (fun s => { s with pc := 0x0102 }) 2 = true := by decide
theorem test_V261_call_0x1234 :
    ends { boot 0x0100 [0xCD, 0x34, 0x12] with sp := 0xFFFE }
      (fun s => { poke [(0xFFFC, 0x03), (0xFFFD, 0x01)] s with sp := 0xFFFC, pc := 0x1234 }) 6 = true := by decide
theorem test_V262_call_z_0x1234 :
    ends { boot 0x0100 [0xCC, 0x34, 0x12] with sp := 0xFFFE, f := 0x00 }
      (fun s => { s with pc := 0x0103 }) 3 = true := by decide
theorem test_V263_call_nc_0x1234 :
    ends { boot 0x0100 [0xD4, 0x34, 0x12] with sp := 0xFFFE, f := 0x00 }
      (fun s => { poke [(0xFFFC, 0x03), (0xFFFD, 0x01)] s with sp := 0xFFFC, pc := 0x1234 }) 6 = true := by decide
theorem test_V264_ret :
    ends { poke [(0xFFFC, 0x03), (0xFFFD, 0x80)] (boot 0x0100 [0xC9]) with sp := 0xFFFC }
      (fun s => { s with sp := 0xFFFE, pc := 0x8003 }) 4 = true := by decide
theorem test_V265_ret_z :
    ends { poke [(0xFFFC, 0x03), (0xFFFD, 0x80)] (boot 0x0100 [0xC8]) with sp := 0xFFFC, f := 0x00 }
      (fun s => { s with pc := 0x0101 }) 2 = true := by decide
theorem test_V266_ret_z :
    ends { poke [(0xFFFC, 0x03), (0xFFFD, 0x80)] (boot 0x0100 [0xC8]) with sp := 0xFFFC, f := 0x80 }
      (fun s => { s with sp := 0xFFFE, pc := 0x8003 }) 5 = true := by decide
theorem test_V268_reti :
    ends { poke [(0xFFFC, 0x51), (0xFFFD, 0x01)] (boot 0x0100 [0xD9]) with sp := 0xFFFC, ime := false }
      (fun s => { s with sp := 0xFFFE, pc := 0x0151, ime := true }) 4 = true := by decide
theorem test_V269_rst_0x28 :
    ends { boot 0x0100 [0xEF] with sp := 0xFFFE }
      (fun s => { poke [(0xFFFC, 0x01), (0xFFFD, 0x01)] s with sp := 0xFFFC, pc := 0x0028 }) 4 = true := by decide
theorem test_V271_rst_0x38 :
    ends { boot 0x0203 [0xFF] with sp := 0xD000 }
      (fun s => { poke [(0xCFFE, 0x04), (0xCFFF, 0x02)] s with sp := 0xCFFE, pc := 0x0038 }) 4 = true := by decide

/-! ### Singletons (V280 to V310) -/

theorem test_V280_nop :
    ends { boot 0x0100 [0x00] with f := 0xF0 } (fun s => { s with pc := 0x0101 }) 1 = true := by decide
theorem test_V282_daa :
    ends { boot 0x0100 [0x27] with a := 0x9A, f := 0x00 }
      (fun s => { s with a := 0x00, f := 0x90, pc := 0x0101 }) 1 = true := by decide
theorem test_V284_daa :
    ends { boot 0x0100 [0x27] with a := 0x4B, f := 0x60 }
      (fun s => { s with a := 0x45, f := 0x40, pc := 0x0101 }) 1 = true := by decide
theorem test_V292_cpl :
    ends { boot 0x0100 [0x2F] with a := 0x35, f := 0x80 }
      (fun s => { s with a := 0xCA, f := 0xE0, pc := 0x0101 }) 1 = true := by decide
theorem test_V293_cpl :
    ends { boot 0x0100 [0x2F] with a := 0xFF, f := 0x10 }
      (fun s => { s with a := 0x00, f := 0x70, pc := 0x0101 }) 1 = true := by decide
theorem test_V294_scf :
    ends { boot 0x0100 [0x37] with f := 0xE0 } (fun s => { s with f := 0x90, pc := 0x0101 }) 1 = true := by decide
theorem test_V295_ccf :
    ends { boot 0x0100 [0x3F] with f := 0x90 } (fun s => { s with f := 0x80, pc := 0x0101 }) 1 = true := by decide
theorem test_V296_ccf :
    ends { boot 0x0100 [0x3F] with f := 0x60 } (fun s => { s with f := 0x10, pc := 0x0101 }) 1 = true := by decide
theorem test_V297_halt :
    ends { boot 0x0100 [0x76] with ime := false }
      (fun s => { s with pc := 0x0101, halt := true }) 1 = true := by decide
theorem test_V298_stop :
    ends (boot 0x0100 [0x10, 0x00]) (fun s => { s with pc := 0x0101, stop := true }) 1 = true := by decide
theorem test_V299_di :
    ends { boot 0x0100 [0xF3] with ime := true }
      (fun s => { s with pc := 0x0101, ime := false }) 1 = true := by decide
theorem test_V300_ei :
    ends { boot 0x0100 [0xFB] with ime := false }
      (fun s => { s with pc := 0x0101, ime := true }) 1 = true := by decide
theorem test_V302_add_sp_m2 :
    ends { boot 0x0100 [0xE8, 0xFE] with sp := 0xD000, f := 0x80 }
      (fun s => { s with sp := 0xCFFE, pc := 0x0102 }) 4 = true := by decide
theorem test_V305_add_sp_m1 :
    ends { boot 0x0100 [0xE8, 0xFF] with sp := 0x0001 }
      (fun s => { s with f := 0x30, sp := 0x0000, pc := 0x0102 }) 4 = true := by decide
theorem test_V308_ld_hl_spm128 :
    ends { boot 0x0100 [0xF8, 0x80] with sp := 0x0100, f := 0xF0 }
      (fun s => { s with l := 0x80, f := 0xC0, pc := 0x0102 }) 3 = true := by decide
theorem test_V309_ld_hl_sp1 :
    ends { boot 0x0100 [0xF8, 0x01] with sp := 0x00FF }
      (fun s => { s with h := 0x01, f := 0x30, pc := 0x0102 }) 3 = true := by decide

/-! ### SWAP, BIT, RES, SET (V320 to V331) -/

theorem test_V320_swap_a :
    ends { boot 0x0100 [0xCB, 0x37] with a := 0xF1, f := 0xF0 }
      (fun s => { s with a := 0x1F, f := 0x00, pc := 0x0102 }) 2 = true := by decide
theorem test_V321_swap_b :
    ends { boot 0x0100 [0xCB, 0x30] with b := 0x00 }
      (fun s => { s with f := 0x80, pc := 0x0102 }) 2 = true := by decide
theorem test_V322_swap_mem_hl :
    ends { poke [(0xC000, 0x0A)] (boot 0x0100 [0xCB, 0x36]) with h := 0xC0, l := 0x00 }
      (fun s => { poke [(0xC000, 0xA0)] s with pc := 0x0102 }) 4 = true := by decide
theorem test_V323_bit_7_h :
    ends { boot 0x0100 [0xCB, 0x7C] with h := 0x80, f := 0x10 }
      (fun s => { s with f := 0x30, pc := 0x0102 }) 2 = true := by decide
theorem test_V324_bit_7_h :
    ends { boot 0x0100 [0xCB, 0x7C] with h := 0x7F, f := 0x10 }
      (fun s => { s with f := 0xB0, pc := 0x0102 }) 2 = true := by decide
theorem test_V326_bit_0_mem_hl :
    ends { poke [(0xC000, 0xFE)] (boot 0x0100 [0xCB, 0x46]) with h := 0xC0, l := 0x00 }
      (fun s => { s with f := 0xA0, pc := 0x0102 }) 3 = true := by decide
theorem test_V327_res_0_a :
    ends { boot 0x0100 [0xCB, 0x87] with a := 0xFF, f := 0xF0 }
      (fun s => { s with a := 0xFE, pc := 0x0102 }) 2 = true := by decide
theorem test_V328_res_7_mem_hl :
    ends { poke [(0xC000, 0x80)] (boot 0x0100 [0xCB, 0xBE]) with h := 0xC0, l := 0x00 }
      (fun s => { poke [(0xC000, 0x00)] s with pc := 0x0102 }) 4 = true := by decide
theorem test_V329_set_1_e :
    ends { boot 0x0100 [0xCB, 0xCB] with e := 0x00 }
      (fun s => { s with e := 0x02, pc := 0x0102 }) 2 = true := by decide
theorem test_V331_set_7_a :
    ends { boot 0x0100 [0xCB, 0xFF] with a := 0x80 } (fun s => { s with pc := 0x0102 }) 2 = true := by decide
theorem test_V330_set_7_mem_hl :
    ends { poke [(0xC000, 0x01)] (boot 0x0100 [0xCB, 0xFE]) with h := 0xC0, l := 0x00 }
      (fun s => { poke [(0xC000, 0x81)] s with pc := 0x0102 }) 4 = true := by decide

/-! ### The step, exceptions and interrupts (X1 to X21) -/

/-- X10 to X20: an unassigned byte answers IllegalOpcode with that byte, delta 0, and changes nothing. -/
theorem test_X10_X20_unassigned :
    (([0xD3, 0xDB, 0xDD, 0xE3, 0xE4, 0xEB, 0xEC, 0xED, 0xF4, 0xFC, 0xFD] : List Byte).all fun b =>
      answers { core := { boot 0x0100 [b, 0x12, 0x34] with a := 0x11, f := 0xF0, sp := 0xD000, ime := true },
                stepped := false } .step id (.illegalOpcode [b]) 0) = true := by decide
/-- X1, calls 2, 3 and 6: a halted step does nothing, an injection wakes with IME = 0, and the request is entered once
IME = 1. -/
theorem test_X1_halted_step_does_nothing :
    ends { boot 0x0101 [0x04] with halt := true } id 0 = true := by decide
theorem test_X1_injection_wakes :
    answers { core := { boot 0x0101 [0x04] with halt := true }, stepped := true } (.injectInterrupt 0x0048)
      (fun s => { s with halt := false, irq := some 0x0048 }) .ok 0 = true := by decide
theorem test_X1_entry_after_ei :
    ends { boot 0x0103 [0x04] with sp := 0xD000, ime := true, irq := some 0x0048 }
      (fun s => { poke [(0xCFFE, 0x03), (0xCFFF, 0x01)] s with sp := 0xCFFE, pc := 0x0048, ime := false, irq := none })
      5 = true := by decide
/-- X1 with `EI_DELAY = true`: EI only sets EI_PENDING, and the instruction after it then sets IME. -/
theorem test_X1_delayed_ei :
    let s := ((boot 0x0102 [0xFB]).enableInterrupts true).settleEi true .ei
    s.ime = false ∧ s.eiPending = true := by decide
theorem test_X1_delayed_ei_settles :
    let s := ((boot 0x0102 [0xFB]).enableInterrupts true).settleEi true (.incR .b)
    s.ime = true ∧ s.eiPending = false := by decide
/-- X2: a deliverable request is entered before the unassigned byte at PC is looked at. -/
theorem test_X2_entry_before_decode :
    ends { enabled with irq := some 0x0050 }
      (fun s => { poke [(0xCFFF, 0x01)] s with sp := 0xCFFE, pc := 0x0050, ime := false, irq := none }) 5 = true := by
  decide
/-- X3: a second injection replaces the pending one. -/
theorem test_X3_injection_replaces :
    answers { core := { enabled with irq := some 0x0040 }, stepped := false } (.injectInterrupt 0x0048)
      (fun s => { s with irq := some 0x0048 }) .ok 0 = true := by decide
/-- X4: interrupt entry with the stack wrapping through address 0. -/
theorem test_X4_entry_wraps :
    ends { boot 0xFFFF [] with sp := 0x0001, ime := true, irq := some 0x0060 }
      (fun s => { poke [(0xFFFF, 0xFF), (0x0000, 0xFF)] s with sp := 0xFFFF, pc := 0x0060, ime := false, irq := none })
      5 = true := by decide
/-- X5, call 4: a step in Stopped mode with an undeliverable request changes nothing. -/
theorem test_X5_stopped_step_does_nothing :
    ends { boot 0x0102 [0x3C] with stop := true, irq := some 0x0040 } id 0 = true := by decide
/-- X6: before the first reset every call but `reset` is refused. -/
theorem test_X6_uninitialized :
    let x : Session := { core := { boot 0x0100 [] with init := false }, stepped := false }
    refuses x .step .uninitializedSession = true ∧ refuses x (.snapshot [0xC000]) .uninitializedSession = true ∧
      refuses x (.injectInterrupt 0x0040) .uninitializedSession = true ∧
      refuses x (.loadImage [0xAA] 0x0100) .uninitializedSession = true := by decide
/-- X7: `reset` in the end state of X5 leaves the state after reset, the program gone. -/
theorem test_X7_reset_core :
    let s := { boot 0x0104 [0x76] with a := 0x01, halt := true, irq := some 0x0048, mclk := 4, tclk := 16 }
    (match hostCall { core := s, stepped := true } .reset with
      | .ok y => decide (y.session.core = State.resetAt 0x0100) && decide (y.session.stepped = false)
      | .error _ => false) = true := by decide
/-- X8: an image up to the last address, one past it, and one after a step. -/
theorem test_X8_image_to_the_end :
    answers { core := State.reset, stepped := false } (.loadImage [0xAA, 0xBB, 0xCC] 0xFFFD)
      (fun s => poke [(0xFFFD, 0xAA), (0xFFFE, 0xBB), (0xFFFF, 0xCC)] s) .ok 0 = true := by decide
theorem test_X8_image_too_long :
    refuses { core := State.reset, stepped := false } (.loadImage [0xAA, 0xBB, 0xCC, 0xDD] 0xFFFD) .imageTooLong
      = true := by decide
theorem test_X8_image_after_step :
    refuses { core := State.reset, stepped := true } (.loadImage [0xAA] 0xC000) .imageAfterStep = true := by decide
/-- X21: the prefix and its second byte are one instruction of two bytes. -/
theorem test_X21_prefix_is_one_instruction :
    ends (boot 0x0100 [0xCB]) (fun s => { s with pc := 0x0102 }) 2 = true := by decide

/-! ## Witnesses: every statement's hypotheses are met by a state, each clause of a choice by its own -/

/-- A state with the stack at 0xD000, HL at 0xC000, every flag set, and bytes at HL and on the stack. -/
def sample : State :=
  { poke [(0xC000, 0x9A), (0xD000, 0x34), (0xD001, 0x12)] (boot 0x0100 []) with
    a := 0x5C, b := 0xC1, c := 0x7F, d := 0xC2, h := 0xC0, f := 0xF0, sp := 0xD000 }

/-- The same with every flag clear. -/
def plain : State := { sample with f := 0x00 }

theorem reset_inv : Inv State.reset := ⟨by decide, by decide, by decide, by decide, by decide⟩

theorem sample_inv : Inv sample := ⟨by decide, by decide, by decide, by decide, by decide⟩

/-- `Memory.wf s.mem = true`: WordIsTwoBytesLowFirst, StoresIntoMemory, StoresStackPointer, LoadsStepHl,
CountsMemoryByteAndPair, RotatesOperand, ShiftsOperand, SwapsNibbles, ClearsOrSetsBit, PushesPair,
CallsPushReturnAddress. -/
theorem test_wit_memory_form : Memory.wf sample.mem = true := by decide

theorem test_wit_StepKeepsInvariants : Inv sample ∧ ∃ t, step sample = .next t := ⟨sample_inv, _, rfl⟩

theorem test_wit_EveryDriverKeepsInvariants :
    let x : Session := { core := State.reset, stepped := false }
    Inv x.core ∧ ∃ y, drive x [.loadImage [0xFB, 0x76] 0x0100, .step, .step, .injectInterrupt 0x0040, .step, .snapshot [0xC000]]
      = .ok y := ⟨reset_inv, _, rfl⟩

/-- StepRunsDecodedInstruction and StepReturnsStatusAndDelta: nothing pending, and pending with IME = 0. -/
theorem test_wit_StepRunsDecodedInstruction_quiet :
    sample.init = true ∧ (sample.irq = none ∨ sample.ime = false) ∧ sample.halt = false ∧ sample.stop = false ∧
      decode [sample.readByte sample.pc, sample.readByte (sample.pc + 1), sample.readByte (sample.pc + 2)] =
        .ok (.nop, [0x00, 0x00]) := ⟨by decide, by decide, by decide, by decide, by rfl⟩
theorem test_wit_StepRunsDecodedInstruction_masked :
    let s := { sample with irq := some 0x0040 }
    s.init = true ∧ (s.irq = none ∨ s.ime = false) ∧ s.halt = false ∧ s.stop = false := by decide
/-- Every slot assigned but the extended 0x20 to 0xFF, as 30_encoding.md R86 suggests; EI delayed; other costs and another
high page. -/
def otherParams : Params :=
  { Config.params with
    assigned := fun tb op => Config.assigned tb op && !(tb == .extended && decide (0x20 ≤ op))
    mcycles := fun _ _ => 9
    eiDelay := true
    highPage := 0xFE }

/-- StepRunsDecodedInstruction and UnassignedByteFaults: a slot that other parameters leave assigned, and ones they do not. -/
theorem test_wit_SlotAssigned :
    SlotAssigned otherParams 0xCB 0x1F ∧ ¬ SlotAssigned otherParams 0xCB 0x20 ∧ ¬ SlotAssigned Config.params 0xED 0xCB :=
  ⟨by unfold SlotAssigned; decide, by unfold SlotAssigned; decide, by unfold SlotAssigned; decide⟩
theorem test_wit_StepReturnsStatusAndDelta_fault :
    Running (boot 0x0100 [0xFD]) ∧ unassignedByte (boot 0x0100 [0xFD]).fetch = some 0xFD := by
  unfold Running
  decide
theorem test_wit_StepReturnsStatusAndDelta_ok :
    Running (boot 0x0100 [0xFE]) ∧ unassignedByte (boot 0x0100 [0xFE]).fetch = none := by
  unfold Running
  decide

/-! ### Other parameters (00_scope.md R8), each by the rule that names it -/

/-- 30_encoding.md R84: a narrowed extended slot raises with the pair, and no state changes. -/
theorem test_narrowed_slot : stepWith otherParams (boot 0x0100 [0xCB, 0x37]) = .fault (.illegalOpcode [0xCB, 0x37]) := by rfl

/-- 46_singletons.md R258 with `EI_DELAY = true`: EI leaves IME; the end of the next instruction raises it. -/
theorem test_delayed_ei :
    ∃ t u, stepWith otherParams (boot 0x0100 [0xFB, 0x00]) = .next t ∧ stepWith otherParams t = .next u ∧
      t.ime = false ∧ t.eiPending = true ∧ u.ime = true ∧ u.eiPending = false := ⟨_, _, rfl, rfl, rfl, rfl, rfl, rfl⟩

/-- `MCYCLES` and `HIGH_PAGE`: `LDH (n),A` costs what the parameter says and stores in the page it names. -/
theorem test_other_cost_and_page :
    ∃ t, stepWith otherParams { boot 0x0100 [0xE0, 0x80] with a := 0x5C } = .next t ∧ t.mclk = 9 ∧
      t.readByte 0xFE80 = 0x5C := ⟨_, rfl, rfl, rfl⟩

/-- DeliverableRequestIsEntered and RetiUndoesInterruptEntry, at a plain stack and at one that wraps. -/
theorem test_wit_DeliverableRequestIsEntered :
    let s := { sample with ime := true, irq := some 0x0040 }
    s.init = true ∧ s.irq = some 0x0040 ∧ s.ime = true ∧ Memory.wf s.mem = true := by decide
theorem test_wit_RetiUndoesInterruptEntry :
    let s := { sample with ime := true, irq := some 0x0040, sp := 0x0001 }
    s.init = true ∧ s.ime = true ∧ s.irq = some 0x0040 ∧ Memory.wf s.mem = true ∧
      ∃ t u, step s = .next t ∧ exec .reti t = .next u :=
  ⟨by decide, by decide, by decide, by decide, _, _, rfl, rfl⟩

theorem test_wit_SuspendedStepChangesNothing_halted :
    let s := { sample with halt := true, ime := true }
    s.init = true ∧ (s.irq = none ∨ s.ime = false) ∧ (s.halt = true ∨ s.stop = true) := by decide
theorem test_wit_SuspendedStepChangesNothing_stopped :
    let s := { sample with stop := true, irq := some 0x0040 }
    s.init = true ∧ (s.irq = none ∨ s.ime = false) ∧ (s.halt = true ∨ s.stop = true) := by decide

theorem test_wit_UninitializedSessionIsRefused : ({ sample with init := false } : State).init = false := by decide
theorem test_wit_InjectionStoresRequestAndWakes : sample.init = true := by decide

/-- 10_state.md R35 and 60_exceptions.md R326: a snapshot shows registers and cells, and the same whatever request is
pending. -/
theorem test_snapshot_hides_request :
    let x : Session := { core := { sample with irq := some 0x0040 }, stepped := true }
    let y : Session := { core := sample, stepped := true }
    hostReply x (.snapshot [sample.hl]) = hostReply y (.snapshot [sample.hl]) ∧
      ∃ r v, hostReply x (.snapshot [sample.hl]) = .ok r ∧ r.view = some v ∧ v.a = 0x5C ∧ v.bytes = [0x9A] :=
  ⟨rfl, _, _, rfl, rfl, rfl, rfl⟩

/-- ImageBytesLandAtBase: the last byte that fits, the first that does not, and after a step. -/
theorem test_wit_ImageBytesLandAtBase_fits :
    let x : Session := { core := sample, stepped := false }
    x.core.init = true ∧ Memory.wf x.core.mem = true ∧ x.stepped = false ∧ (0xFFFD : Word).toNat + 3 = 65536 := by decide
theorem test_wit_ImageBytesLandAtBase_too_long : (0xFFFD : Word).toNat + 4 > 65536 := by decide

theorem test_wit_DecodeUndoesEncode : WellFormed (.setMemHl 7) = true := by decide
/-- LengthIsFixedByFirstByte: a slot of each length. -/
theorem test_wit_LengthIsFixedByFirstByte :
    unassignedByte (instrOf 0x76 0xED 0xED) = none ∧ unassignedByte (instrOf 0xCB 0xED 0xED) = none ∧
      unassignedByte (instrOf 0xCD 0xED 0xED) = none := by decide
theorem test_wit_EncodeUndoesDecode : decode [0xCD, 0x00, 0x02, 0xC9] = .ok (.callNn 0x0200, [0xC9]) := by rfl

/-- WordIsTwoBytesLowFirst at the top of memory: the second byte lies at 0x0000, and another address is neither. -/
theorem test_wit_WordIsTwoBytesLowFirst_wrap :
    Memory.wf sample.mem = true ∧ (0xFFFF : Word) + 1 = 0x0000 ∧ (0x8000 : Word) ≠ 0xFFFF ∧ (0x8000 : Word) ≠ 0xFFFF + 1 := by decide

/-- StoreIsSeenByNextFetch, by what follows `LD (HL),n` with HL on the next byte: here it makes the next opcode `INC B`. -/
theorem test_wit_StoreIsSeenByNextFetch :
    let s := { boot 0x0100 [0x36, 0x04] with h := 0x01, l := 0x02 }
    Memory.wf s.mem = true ∧ s.hl = s.pc + 2 ∧ ∃ t, step s = .next t ∧ t.fetch = .incR .b :=
  ⟨by decide, by decide, _, rfl, rfl⟩
/-- Its clauses with hypotheses: a condition that holds, and a form that changes the byte at HL. -/
theorem test_wit_StoreIsSeenByNextFetch_forms :
    Memory.wf sample.mem = true ∧ holds sample .z = true ∧ (∃ t, exec .swapMemHl sample = .next t) ∧
      ∃ t, exec (.setMemHl 0) sample = .next t := ⟨by decide, by decide, ⟨_, rfl⟩, _, rfl⟩

/-- HighPageIsPlainMemory at both ends of the page. -/
theorem test_wit_HighPageIsPlainMemory_low :
    Memory.wf sample.mem = true ∧ (0xFF00 : Word).toNat = 0xFF00 + (0x00 : Byte).toNat ∧
      (0xFF7F : Word).toNat = 0xFF00 + sample.c.toNat := by decide
theorem test_wit_HighPageIsPlainMemory_high : (0xFFFF : Word).toNat = 0xFF00 + (0xFF : Byte).toNat := by decide

theorem test_wit_LoadsStepHl :
    (Instr.ldAMemHlDec, 65535) ∈ [(Instr.ldAMemHlInc, 1), (Instr.ldAMemHlDec, 65535)] ∧
      (Instr.ldMemHlIncA, 1) ∈ [(Instr.ldMemHlIncA, 1), (Instr.ldMemHlDecA, 65535)] := by decide

/-- ClearsOrSetsBit: a byte with bit 7 cleared and one with bit 0 set, and the operand that holds it. -/
theorem test_wit_ClearsOrSetsBit_clear :
    Memory.wf sample.mem = true ∧
      (∀ k < 8, (0x1A : Byte).getLsbD k = if k = (7 : BitVec 3).toNat then false else (0x9A : Byte).getLsbD k) ∧
      sample.readByte sample.hl = 0x9A := by decide
theorem test_wit_ClearsOrSetsBit_set :
    Memory.wf sample.mem = true ∧
      (∀ k < 8, (0x5D : Byte).getLsbD k = if k = (0 : BitVec 3).toNat then true else (0x5C : Byte).getLsbD k) ∧
      sample.reg8 .a = 0x5C := by decide

/-- The clauses on a condition: each condition holds in one of the two states and fails in the other (JumpsAbsolute,
JumpsRelative, CallsPushReturnAddress, ReturnsPopIntoPc). -/
theorem test_wit_conditions :
    holds sample .z = true ∧ holds sample .nz = false ∧ holds sample .c = true ∧ holds sample .nc = false ∧
      holds plain .z = false ∧ holds plain .nz = true ∧ holds plain .c = false ∧ holds plain .nc = true := by decide

theorem test_wit_PopUndoesPush :
    Inv sample ∧ ∃ t u, exec (.pushQq .af) sample = .next t ∧ exec (.popQq .af) t = .next u :=
  ⟨sample_inv, _, _, rfl, rfl⟩
theorem test_wit_ReturnUndoesCall :
    Memory.wf sample.mem = true ∧ ∃ t u, exec (.callNn 0x0200) sample = .next t ∧ exec .ret t = .next u :=
  ⟨by decide, _, _, rfl, rfl⟩

/-- DaaFollowsAlgorithm: N = 0 and N = 1, and for N = 0 each of the four corrections at its boundary. -/
theorem test_wit_DaaFollowsAlgorithm :
    plain.flags.n = false ∧ sample.flags.n = true ∧ ¬ (0x99 : Byte).toNat % 16 > 9 ∧ ¬ (0x99 : Byte).toNat > 0x99 ∧
      (0x9A : Byte).toNat % 16 > 9 ∧ (0x9A : Byte).toNat > 0x99 ∧ (0x0A : Byte).toNat % 16 > 9 ∧
      ¬ (0x0A : Byte).toNat > 0x99 ∧ ¬ (0xA0 : Byte).toNat % 16 > 9 ∧ (0xA0 : Byte).toNat > 0x99 := by decide
theorem test_wit_DaaMakesDecimalArithmetic :
    let s := { plain with a := 0x38 }
    IsBcd s.a ∧ IsBcd 0x99 ∧ IsAdd (.addAN 0x99) s 0x99 0 ∧ IsSub (.sbcAN 0x99) s 0x99 (bit s.flags.c) ∧
      (∃ t u, exec (.addAN 0x99) s = .next t ∧ exec .daa t = .next u) ∧
      ∃ t u, exec (.sbcAN 0x99) s = .next t ∧ exec .daa t = .next u :=
  ⟨⟨by decide, by decide⟩, ⟨by decide, by decide⟩, .inr (.inr (.inl ⟨rfl, rfl⟩)),
    .inr (.inr (.inr (.inr (.inr ⟨rfl, rfl⟩)))), ⟨_, _, rfl, rfl⟩, _, _, rfl, rfl⟩

theorem test_wit_UnassignedByteFaults :
    unassignedByte .unassignedED = some 0xED ∧ Running (boot 0x0100 [0xED]) ∧
      (boot 0x0100 [0xED]).readByte (boot 0x0100 [0xED]).pc = 0xED := by
  unfold Running
  decide
theorem test_wit_LatchSingletons : otherParams.eiDelay = true := by decide
theorem test_wit_OnlyUnassignedSlotsStop : unassignedByte (.prefixCb 0xED) = none := by decide

/-- EveryInstructionTicksItsCost, PcAndSpHaveFewWriters, LatchesHaveFewWriters, FlagTableFirstRow: an instruction that
completes and that each of their clauses is about. -/
theorem test_wit_whole_machine :
    (∃ t, exec (.ldRR .a .b) sample = .next t) ∧ transfers (.ldRR .a .b) = false ∧ writesSp (.ldRR .a .b) = false ∧
      keepsFlags (.ldRR .a .b) = true ∧ keepsFlags (.popQq .bc) = true ∧ writesSp (.incRr .hl) = false ∧
      WellFormed (.ldRR .a .b) = true ∧ ∃ t, execWith otherParams (.ldRR .a .b) sample = .next t :=
  ⟨⟨_, rfl⟩, by decide, by decide, by decide, by decide, by decide, by decide, _, rfl⟩

theorem test_wit_NotTakenIsCheaper :
    conditional (.callCcNn .z 0x0200) = true ∧ taken (.callCcNn .z 0x0200) sample = true ∧
      taken (.callCcNn .z 0x0200) plain = false ∧ (∃ t, exec (.callCcNn .z 0x0200) sample = .next t) ∧
      ∃ t, exec (.callCcNn .z 0x0200) plain = .next t :=
  ⟨by decide, by decide, by decide, ⟨_, rfl⟩, _, rfl⟩

end Sys2Proof.Tests
end

section
/-! PROOFS. Decoding an instruction by the form of its first byte, and the frames of the operations that the loads are
built from. -/

namespace Sys2Proof.Machine

open Sys2Proof.Safety Sys2Proof.Claims

/-! ### Decoding by the form of the first byte (30_encoding.md R71, R74) -/

theorem nnBytes_eq (nn : Word) : nnBytes nn = [loByte nn, hiByte nn] := by
  have hlo : BitVec.ofNat 8 (nn.toNat % 256) = loByte nn := by
    rw [← loByte_toNat, BitVec.ofNat_toNat, BitVec.setWidth_eq]
  have hhi : BitVec.ofNat 8 (nn.toNat / 256) = hiByte nn := by
    rw [← hiByte_toNat, BitVec.ofNat_toNat, BitVec.setWidth_eq]
  rw [nnBytes, hlo, hhi]

theorem decodes_f1 {op : Byte} {i : Instr} (h : primaryForm op = .f1 i) : Decodes [op] i := by
  simp [Decodes, decode, h]

theorem decodes_f2 {op : Byte} {k : Byte → Instr} (h : primaryForm op = .f2 k) (n : Byte) : Decodes [op, n] (k n) := by
  simp [Decodes, decode, h]

theorem decodes_f3 {op : Byte} {k : Word → Instr} (h : primaryForm op = .f3 k) (nn : Word) :
    Decodes (op :: nnBytes nn) (k nn) := by
  simp [Decodes, decode, h, nnBytes_eq]

/-! ### An instruction as "past its bytes, do one operation, tick": what is left to show of the operation -/

theorem frame_advance_tick {regs : List Reg8} {stored : List Word} {s u : State} {len : Nat}
    (h : Frame regs stored (s.advance len) u) (m : Nat) : Frame regs stored s (u.tick m) := by
  obtain ⟨hregs, hmem, hcontrol⟩ := h
  refine ⟨fun r hr => ?_, hmem, hcontrol⟩
  rw [State.tick_reg8, hregs r hr, State.advance_reg8]

theorem advanced_advance_tick {s u : State} {len : Nat} (hpc : u.pc = (s.advance len).pc) (hm : u.mclk = s.mclk)
    (ht : u.tclk = s.tclk) (m : Nat) : Advanced s (u.tick m) len m := by
  refine ⟨?_, by rw [State.tick_mclk, hm], by rw [State.tick_tclk, ht]⟩
  rw [State.tick_pc, hpc, State.advance_pc, BitVec.toNat_add, BitVec.toNat_ofNat, Nat.add_mod_mod]

theorem State.setReg8_frame (s : State) (r : Reg8) (v : Byte) : Frame [r] [] s (s.setReg8 r v) := by
  refine ⟨fun q hq => ?_, fun a _ => s.setReg8_readByte r v a, by simp [SameControl]⟩
  rw [State.setReg8_reg8, if_neg (List.ne_of_not_mem_cons hq)]

theorem State.setReg8_setReg8_reg8 (s : State) {r r' q : Reg8} (v v' : Byte) (hq : q ∉ [r, r']) :
    ((s.setReg8 r v).setReg8 r' v').reg8 q = s.reg8 q := by
  obtain ⟨hr, hr'⟩ : q ≠ r ∧ q ≠ r' := by simpa using hq
  rw [State.setReg8_reg8, if_neg hr', State.setReg8_reg8, if_neg hr]

/-- "A write to a pair splits into two byte writes" (10_state.md R22); SP is no 8-bit register. -/
theorem State.setPair_reg8 (s : State) (rr : Pair) (w : Word) {q : Reg8} (hq : q ∉ pairRegs rr) :
    (s.setPair rr w).reg8 q = s.reg8 q := by
  cases rr with
  | bc | de | hl => exact s.setReg8_setReg8_reg8 (hiByte w) (loByte w) hq
  | sp => cases q <;> rfl

theorem State.setPair_frame (s : State) (rr : Pair) (w : Word) : Frame (pairRegs rr) [] s (s.setPair rr w) :=
  ⟨fun _ hq => s.setPair_reg8 rr w hq, fun a _ => s.setPair_readByte rr w a, by simp [SameControl]⟩

theorem State.writeByte_frame {s : State} (h : Memory.wf s.mem = true) (a : Word) (v : Byte) :
    Frame [] [a] s (s.writeByte a v) := by
  refine ⟨fun r _ => s.writeByte_reg8 a v r, fun b hb => ?_, by simp [SameControl]⟩
  rw [State.readByte_writeByte h, if_neg (List.ne_of_not_mem_cons hb)]

theorem State.writeWord_frame {s : State} (h : Memory.wf s.mem = true) (a w : Word) :
    Frame [] [a, a + 1] s (s.writeWord a w) := by
  refine ⟨fun r _ => s.writeWord_reg8 a w r, fun b hb => ?_, by simp [SameControl]⟩
  obtain ⟨hlo, hhi⟩ : b ≠ a ∧ b ≠ a + 1 := by simpa using hb
  rw [State.readByte_writeWord h, if_neg hhi, if_neg hlo]

end Sys2Proof.Machine
end

section
/-! PROOFS. The loads between registers, memory and 16-bit immediates (40_load.md): one lemma for each shape of load, and
the obligations that list its forms. -/

namespace Sys2Proof.Machine

open Sys2Proof.Safety Sys2Proof.Claims

/-! ### The shapes of the loads -/

theorem loadsReg_of_exec {i : Instr} {s : State} {r : Reg8} {v : Byte} {len m : Nat}
    (h : exec i s = .next (((s.advance len).setReg8 r v).tick m)) : LoadsReg i s r v len m :=
  ⟨_, h, by simp, frame_advance_tick ((s.advance len).setReg8_frame r v) m, by simp, by simp,
    advanced_advance_tick (by simp) (by simp) (by simp) m⟩

/-- A load of A in the model's shared shape is a register load. -/
theorem loadsReg_of_exec_loadA {i : Instr} {s : State} {addr : Word} {len m : Nat}
    (h : exec i s = .next (s.loadA addr len m)) : LoadsReg i s .a (s.readByte addr) len m := loadsReg_of_exec h

theorem storesByte_of_exec {i : Instr} {s : State} (hwf : Memory.wf s.mem = true) {addr : Word} {v : Byte} {len m : Nat}
    (h : exec i s = .next (((s.advance len).writeByte addr v).tick m)) : StoresByte i s addr v len m := by
  have hwf' : Memory.wf (s.advance len).mem = true := hwf
  exact ⟨_, h, by simp [State.readByte_writeByte hwf'], frame_advance_tick (State.writeByte_frame hwf' addr v) m,
    rfl, rfl, advanced_advance_tick rfl rfl rfl m⟩

/-- A store of A in the model's shared shape is a byte store. -/
theorem storesByte_of_exec_storeA {i : Instr} {s : State} (hwf : Memory.wf s.mem = true) {addr : Word} {len m : Nat}
    (h : exec i s = .next (s.storeA addr len m)) : StoresByte i s addr s.a len m := storesByte_of_exec hwf h

theorem writesPair_of_exec {i : Instr} {s : State} {rr : Pair} {w : Word} {len m : Nat}
    (h : exec i s = .next (((s.advance len).setPair rr w).tick m)) : WritesPair i s rr w.toNat len m := by
  refine ⟨_, h, ?_, frame_advance_tick ((s.advance len).setPair_frame rr w) m, by simp, fun hne => by simp [hne],
    advanced_advance_tick (by simp) (by simp) (by simp) m⟩
  have htick : ∀ u : State, (u.tick m).pair rr = u.pair rr := fun _ => by cases rr <;> rfl
  rw [htick, State.pair_setPair]

/-! ### The slots that name a register or a pair (30_encoding.md R82) -/

theorem primaryForm_ldRR (r r' : Reg8) : primaryForm (0b01#2 ++ reg8Code r ++ reg8Code r') = .f1 (.ldRR r r') := by
  cases r <;> cases r' <;> rfl

theorem primaryForm_ldRN (r : Reg8) : primaryForm (0b00#2 ++ reg8Code r ++ 0b110#3) = .f2 (.ldRN r) := by
  cases r <;> rfl

theorem primaryForm_ldRMemHl (r : Reg8) : primaryForm (0b01#2 ++ reg8Code r ++ 0b110#3) = .f1 (.ldRMemHl r) := by
  cases r <;> rfl

theorem primaryForm_ldMemHlR (r : Reg8) : primaryForm (0b01110#5 ++ reg8Code r) = .f1 (.ldMemHlR r) := by
  cases r <;> rfl

theorem primaryForm_ldRrNn (rr : Pair) : primaryForm (0b00#2 ++ pairCode rr ++ 0b0001#4) = .f3 (.ldRrNn rr) := by
  cases rr <;> rfl

/-! ### The obligations -/

/-- Settles O20: each form is the shape `loadsReg_of_exec`, with its own source, length and cost. -/
theorem loadsIntoRegister : Obligations.LoadsIntoRegister := by
  intro s
  refine ⟨fun r r' => ⟨decodes_f1 (primaryForm_ldRR r r'), ?_⟩, fun r n => ⟨decodes_f2 (primaryForm_ldRN r) n, ?_⟩,
    fun r => ⟨decodes_f1 (primaryForm_ldRMemHl r), ?_⟩, ⟨decodes_f1 rfl, ?_⟩, ⟨decodes_f1 rfl, ?_⟩,
    fun nn => ⟨decodes_f3 rfl nn, ?_⟩⟩
  case refine_1 | refine_2 | refine_3 => exact loadsReg_of_exec rfl
  case refine_4 | refine_5 | refine_6 => exact loadsReg_of_exec_loadA rfl

/-- Settles O21: each form is the shape `storesByte_of_exec`, with its own address, byte, length and cost. -/
theorem storesIntoMemory : Obligations.StoresIntoMemory := by
  intro s hwf
  refine ⟨fun r => ⟨decodes_f1 (primaryForm_ldMemHlR r), ?_⟩, fun n => ⟨decodes_f2 rfl n, ?_⟩, ⟨decodes_f1 rfl, ?_⟩,
    ⟨decodes_f1 rfl, ?_⟩, fun nn => ⟨decodes_f3 rfl nn, ?_⟩⟩
  case refine_1 | refine_2 => exact storesByte_of_exec hwf rfl
  case refine_3 | refine_4 | refine_5 => exact storesByte_of_exec_storeA hwf rfl

/-- Settles O24: every pair is written by the one operation `setPair`, SP among them. -/
theorem loadsPairImmediate : Obligations.LoadsPairImmediate :=
  fun _ rr nn => ⟨decodes_f3 (primaryForm_ldRrNn rr) nn, writesPair_of_exec rfl⟩

/-- Settles O25: the word goes to memory by `writeWord`, whose two addresses differ even where `nn + 1` wraps to 0. -/
theorem storesStackPointer : Obligations.StoresStackPointer := by
  intro s nn hwf
  have hwf' : Memory.wf (s.advance 3).mem = true := hwf
  have hne : nn ≠ nn + 1 := by bv_omega
  refine ⟨decodes_f3 rfl nn, ((s.advance 3).writeWord nn s.sp).tick 5, rfl, ?_, ?_,
    frame_advance_tick (State.writeWord_frame hwf' nn s.sp) 5, rfl, rfl, advanced_advance_tick rfl rfl rfl 5⟩
  · rw [State.tick_readByte, State.readByte_writeWord hwf', if_neg hne, if_pos rfl, loByte_toNat]
  · rw [State.tick_readByte, State.readByte_writeWord hwf', if_pos rfl, hiByte_toNat]

end Sys2Proof.Machine
end

section
/-! PROOFS. Decoding and encoding undo each other (30_encoding.md R70 to R84): a decoding lemma for each format, both tables
checked slot by slot through the fields of R72, and the obligations about the opcode maps. -/

namespace Sys2Proof.Machine

open Sys2Proof.Safety Sys2Proof.Claims

/-! ### Decoding by the format of the slot, whatever follows (R71, R74) -/

theorem decode_f1 {op : Byte} {i : Instr} (h : primaryForm op = .f1 i) (rest : List Byte) :
    decode (op :: rest) = .ok (i, rest) := by
  simp [decode, h]

theorem decode_f2 {op : Byte} {k : Byte → Instr} (h : primaryForm op = .f2 k) (n : Byte) (rest : List Byte) :
    decode (op :: n :: rest) = .ok (k n, rest) := by
  simp [decode, h]

theorem decode_f3 {op : Byte} {k : Word → Instr} (h : primaryForm op = .f3 k) (nn : Word) (rest : List Byte) :
    decode (encodeF3 op nn ++ rest) = .ok (k nn, rest) := by
  simp [decode, encodeF3, h]

theorem decode_extended {op2 : Byte} {i : Instr} (h : decodeExtended op2 = i) (rest : List Byte) :
    decode (encodeExtended op2 ++ rest) = .ok (i, rest) := by
  subst h
  rfl

/-! ### The fields of an opcode byte (R72) -/

@[simp] theorem fieldX_append (x : BitVec 2) (y z : BitVec 3) : fieldX (x ++ y ++ z) = x :=
  (BitVec.extractLsb'_append_eq_of_le (xhi := x ++ y) (xlo := z) (start := 6) (len := 2) (by decide)).trans
    BitVec.extractLsb'_append_eq_left

@[simp] theorem fieldY_append (x : BitVec 2) (y z : BitVec 3) : fieldY (x ++ y ++ z) = y :=
  (BitVec.extractLsb'_append_eq_of_le (xhi := x ++ y) (xlo := z) (start := 3) (len := 3) (by decide)).trans
    BitVec.extractLsb'_append_eq_right

@[simp] theorem fieldZ_append (x : BitVec 2) (y z : BitVec 3) : fieldZ (x ++ y ++ z) = z :=
  BitVec.extractLsb'_append_eq_right

theorem fields_append (op : Byte) : fieldX op ++ fieldY op ++ fieldZ op = op := by
  have hxy : fieldX op ++ fieldY op = op.extractLsb' 3 5 := BitVec.extractLsb'_append_extractLsb'_eq_extractLsb' rfl
  rw [hxy]
  exact (BitVec.extractLsb'_append_extractLsb'_eq_extractLsb' rfl).trans BitVec.extractLsb'_eq_self

@[simp] theorem reg8Of_reg8Code (r : Reg8) : reg8Of (reg8Code r) = some r := by cases r <;> rfl

@[simp] theorem reg8Of_six : reg8Of 6#3 = none := rfl

theorem forall_bitVec2 {P : BitVec 2 → Prop} (h : P 0 ∧ P 1 ∧ P 2 ∧ P 3) (x : BitVec 2) : P x := by
  obtain ⟨h0, h1, h2, h3⟩ := h
  obtain ⟨⟨x, hx⟩⟩ := x
  interval_cases x
  exacts [h0, h1, h2, h3]

theorem forall_bitVec3 {P : BitVec 3 → Prop} (h : P 0 ∧ P 1 ∧ P 2 ∧ P 3 ∧ P 4 ∧ P 5 ∧ P 6 ∧ P 7) (x : BitVec 3) : P x := by
  obtain ⟨h0, h1, h2, h3, h4, h5, h6, h7⟩ := h
  obtain ⟨⟨x, hx⟩⟩ := x
  interval_cases x
  exacts [h0, h1, h2, h3, h4, h5, h6, h7]

/-- A fact about every byte is one about every choice of the three fields. -/
theorem forall_byte {P : Byte → Prop} (h : ∀ (x : BitVec 2) (y z : BitVec 3), P (x ++ y ++ z)) (op : Byte) : P op :=
  fields_append op ▸ h (fieldX op) (fieldY op) (fieldZ op)

/-! ### Every slot of both tables encodes back to its bytes (R82, R83) -/

/-- What a slot holds encodes to the slot's byte and the immediate `nn`, of which a shorter format takes the low byte or
nothing. The slot 0xCB has a row that is no instruction of its own (R75). -/
def EncodesTo (op : Byte) (nn : Word) : Form → Prop
  | .f1 i => encode i = [op] ∧ WellFormed i = true
  | .f2 k => encode (k (loByte nn)) = [op, loByte nn] ∧ WellFormed (k (loByte nn)) = true
  | .f3 k => encode (k nn) = encodeF3 op nn ∧ WellFormed (k nn) = true
  | .fcb => op = 0xCB ∧ WellFormed (.prefixCb (loByte nn)) = false

theorem primaryForm_encodesTo (nn : Word) : ∀ op, EncodesTo op nn (primaryForm op) := by
  refine forall_byte (forall_bitVec2 ⟨?_, ?_, ?_, ?_⟩) <;>
  refine forall_bitVec3 ⟨?_, ?_, ?_, ?_, ?_, ?_, ?_, ?_⟩ <;>
  refine forall_bitVec3 ⟨?_, ?_, ?_, ?_, ?_, ?_, ?_, ?_⟩ <;>
  exact And.intro rfl rfl

theorem decodeExtended_encodes : ∀ op2,
    encode (decodeExtended op2) = encodeExtended op2 ∧ WellFormed (decodeExtended op2) = true := by
  refine forall_byte (forall_bitVec2 ⟨?_, ?_, ?_, ?_⟩) <;>
  refine forall_bitVec3 ⟨?_, ?_, ?_, ?_, ?_, ?_, ?_, ?_⟩ <;>
  refine forall_bitVec3 ⟨?_, ?_, ?_, ?_, ?_, ?_, ?_, ?_⟩ <;>
  exact And.intro rfl rfl

theorem encode_of_f1 {op : Byte} {i : Instr} (h : primaryForm op = .f1 i) : encode i = [op] ∧ WellFormed i = true := by
  have hslot := primaryForm_encodesTo 0 op
  rwa [h] at hslot

theorem encode_of_f2 {op : Byte} {k : Byte → Instr} (h : primaryForm op = .f2 k) (n : Byte) :
    encode (k n) = [op, n] ∧ WellFormed (k n) = true := by
  have hslot := primaryForm_encodesTo (makeWord 0 n) op
  rwa [h, EncodesTo, loByte_makeWord] at hslot

theorem encode_of_f3 {op : Byte} {k : Word → Instr} (h : primaryForm op = .f3 k) (b1 b2 : Byte) :
    encode (k (makeWord b2 b1)) = [op, b1, b2] ∧ WellFormed (k (makeWord b2 b1)) = true := by
  have hslot := primaryForm_encodesTo (makeWord b2 b1) op
  rwa [h, EncodesTo, encodeF3, loByte_makeWord, hiByte_makeWord] at hslot

theorem eq_of_fcb {op : Byte} (h : primaryForm op = .fcb) : op = 0xCB := by
  have hslot := primaryForm_encodesTo 0 op
  rw [h] at hslot
  exact hslot.1

/-! ### The obligations -/

/-- Settles O12: the slot of each instruction's opcode, in the format its bytes have. -/
theorem decodeUndoesEncode : Obligations.DecodeUndoesEncode := by
  intro i rest hwf
  cases i with
  | prefixCb op2 => cases hwf
  | nop | ldMemBcA | ldMemDeA | ldAMemBc | ldAMemDe | ldMemHlIncA | ldMemHlDecA | ldAMemHlInc | ldAMemHlDec | incMemHl
  | decMemHl | rlca | rrca | rla | rra | stop | daa | cpl | scf | ccf | halt | addAMemHl | adcAMemHl | subMemHl | sbcAMemHl
  | andMemHl | xorMemHl | orMemHl | cpMemHl | ret | reti | ldMemCA | ldAMemC | jpHl | di | ei | ldSpHl | unassignedD3
  | unassignedDB | unassignedDD | unassignedE3 | unassignedE4 | unassignedEB | unassignedEC | unassignedED | unassignedF4
  | unassignedFC | unassignedFD => exact decode_f1 rfl rest
  | incR r | decR r | ldRMemHl r | ldMemHlR r | addAR r | adcAR r | subR r | sbcAR r | andR r | xorR r | orR r | cpR r =>
    exact decode_f1 (by cases r <;> rfl) rest
  | ldRR r r' => exact decode_f1 (primaryForm_ldRR r r') rest
  | incRr rr | decRr rr | addHlRr rr => exact decode_f1 (by cases rr <;> rfl) rest
  | popQq qq | pushQq qq => exact decode_f1 (by cases qq <;> rfl) rest
  | retCc cc => exact decode_f1 (by cases cc <;> rfl) rest
  | rstT t => exact decode_f1 (by simp [primaryForm, primaryX3]) rest
  | ldMemHlN n | addAN n | adcAN n | subN n | sbcAN n | andN n | xorN n | orN n | cpN n | ldhMemNA n | ldhAMemN n | jrE n
  | addSpE n | ldHlSpE n => exact decode_f2 rfl n rest
  | ldRN r n => exact decode_f2 (primaryForm_ldRN r) n rest
  | jrCcE cc e => exact decode_f2 (by cases cc <;> rfl) e rest
  | ldMemNnSp nn | jpNn nn | callNn nn | ldMemNnA nn | ldAMemNn nn => exact decode_f3 rfl nn rest
  | ldRrNn rr nn => exact decode_f3 (primaryForm_ldRrNn rr) nn rest
  | jpCcNn cc nn | callCcNn cc nn => exact decode_f3 (by cases cc <;> rfl) nn rest
  | rlcMemHl | rrcMemHl | rlMemHl | rrMemHl | slaMemHl | sraMemHl | swapMemHl | srlMemHl => exact decode_extended rfl rest
  | rlcR r | rrcR r | rlR r | rrR r | slaR r | sraR r | swapR r | srlR r => exact decode_extended (by cases r <;> rfl) rest
  | bitR b r | resR b r | setR b r => exact decode_extended (by simp [decodeExtended]) rest
  | bitMemHl b | resMemHl b | setMemHl b => exact decode_extended (by simp [decodeExtended]) rest

/-- What the `Decodes` clauses of the instruction statements come to. -/
theorem decodes_encode {i : Instr} (h : WellFormed i = true) : Decodes (encode i) i := by
  have hdecode := decodeUndoesEncode i [] h
  rwa [List.append_nil] at hdecode

/-- The same with a 16-bit immediate written in the statements' own terms. -/
theorem decodes_nnBytes {op : Byte} {nn : Word} {i : Instr} (h : encode i = encodeF3 op nn) (hwf : WellFormed i = true) :
    Decodes (op :: nnBytes nn) i := by
  have hdecode := decodes_encode hwf
  rwa [h, encodeF3, ← nnBytes_eq] at hdecode

/-- Settles O13: what decoding consumed is read off the slot of the first byte. -/
theorem encodeUndoesDecode : Obligations.EncodeUndoesDecode := by
  intro bytes rest i h
  match bytes with
  | [] => cases h
  | b0 :: tail =>
    match hform : primaryForm b0, tail with
    | .f1 j, tail =>
      rw [decode_f1 hform] at h
      cases h
      obtain ⟨henc, hwf⟩ := encode_of_f1 hform
      exact ⟨by rw [henc, List.singleton_append], hwf⟩
    | .f2 k, b1 :: tail =>
      rw [decode_f2 hform] at h
      cases h
      obtain ⟨henc, hwf⟩ := encode_of_f2 hform b1
      exact ⟨by rw [henc]; rfl, hwf⟩
    | .f3 k, b1 :: b2 :: tail =>
      have hdecode := decode_f3 hform (makeWord b2 b1) tail
      rw [encodeF3, loByte_makeWord, hiByte_makeWord] at hdecode
      cases hdecode.symm.trans h
      obtain ⟨henc, hwf⟩ := encode_of_f3 hform b1 b2
      exact ⟨by rw [henc]; rfl, hwf⟩
    | .fcb, b1 :: tail =>
      obtain rfl := eq_of_fcb hform
      cases (decode_extended rfl tail).symm.trans h
      obtain ⟨henc, hwf⟩ := decodeExtended_encodes b1
      exact ⟨by rw [henc]; rfl, hwf⟩
    | .f2 _, [] | .f3 _, [] | .f3 _, [_] | .fcb, [] => simp [decode, hform] at h

theorem length_encode (i : Instr) : (encode i).length = instrLength i := by cases i <;> rfl

/-- The instruction at three bytes is spelt by those of them that it takes. -/
theorem bytes_eq_encode_instrOf (b0 b1 b2 : Byte) : ∃ rest, decode [b0, b1, b2] = .ok (instrOf b0 b1 b2, rest) ∧
    [b0, b1, b2] = encode (instrOf b0 b1 b2) ++ rest ∧ WellFormed (instrOf b0 b1 b2) = true := by
  obtain ⟨rest, h⟩ := decode_three b0 b1 b2
  exact ⟨rest, h, encodeUndoesDecode _ _ _ h⟩

/-- The length at a first byte, by its format (R70, R73). -/
def formLength : Form → Nat
  | .f1 _ => 1
  | .f2 _ => 2
  | .f3 _ => 3
  | .fcb => 2

theorem formLength_bounds (form : Form) : 1 ≤ formLength form ∧ formLength form ≤ 3 := by
  cases form <;> simp [formLength]

theorem instrLength_instrOf (b0 b1 b2 : Byte) : instrLength (instrOf b0 b1 b2) = formLength (primaryForm b0) := by
  rw [← length_encode, instrOf]
  cases hform : primaryForm b0 with
  | f1 i => simp [formLength, encode_of_f1 hform]
  | f2 k => simp [formLength, encode_of_f2 hform]
  | f3 k => simp [formLength, encode_of_f3 hform]
  | fcb => simp [formLength, decodeExtended_encodes, encodeExtended]

/-- Settles O14: the length is that of the first byte's format, and decoding takes as many bytes as the encoding has. -/
theorem lengthIsFixedByFirstByte : Obligations.LengthIsFixedByFirstByte := by
  intro b0 b1 b2 b1' b2' _
  have hlen := instrLength_instrOf b0 b1 b2
  obtain ⟨hpos, hle⟩ := formLength_bounds (primaryForm b0)
  obtain ⟨rest, hdecode, hbytes, _⟩ := bytes_eq_encode_instrOf b0 b1 b2
  refine ⟨hlen.trans (instrLength_instrOf b0 b1' b2').symm, hlen ▸ hpos, hlen ▸ hle, instrLength_instrOf 0xCB b1 b2, ?_⟩
  have hdrop : [b0, b1, b2].drop (instrLength (instrOf b0 b1 b2)) = rest := by
    rw [hbytes, ← length_encode, List.drop_left]
  rw [hdecode, hdrop]

/-- The eleven instructions of the unassigned slots are the ones whose status byte is their encoding (R259). -/
theorem encode_of_unassignedByte {i : Instr} {b : Byte} (h : unassignedByte i = some b) :
    encode i = [b] ∧ b ∈ ([0xD3, 0xDB, 0xDD, 0xE3, 0xE4, 0xEB, 0xEC, 0xED, 0xF4, 0xFC, 0xFD] : List Byte) := by
  cases i <;> cases h <;> exact ⟨rfl, by decide⟩

theorem unassignedByte_instrOf {b0 : Byte} (b1 b2 : Byte)
    (h : b0 ∈ ([0xD3, 0xDB, 0xDD, 0xE3, 0xE4, 0xEB, 0xEC, 0xED, 0xF4, 0xFC, 0xFD] : List Byte)) :
    unassignedByte (instrOf b0 b1 b2) = some b0 := by
  simp only [List.mem_cons, List.not_mem_nil, or_false] at h
  rcases h with rfl | rfl | rfl | rfl | rfl | rfl | rfl | rfl | rfl | rfl | rfl <;> rfl

/-- Settles O15: an unassigned instruction is spelt by its status byte alone, so that byte is the first one. -/
theorem unassignedSlotsAreTheEleven : Obligations.UnassignedSlotsAreTheEleven := by
  intro b0 b1 b2
  split
  case isTrue h => exact unassignedByte_instrOf b1 b2 h
  case isFalse h =>
    cases hb : unassignedByte (instrOf b0 b1 b2) with
    | none => rfl
    | some b =>
      obtain ⟨henc, hmem⟩ := encode_of_unassignedByte hb
      obtain ⟨rest, -, hbytes, -⟩ := bytes_eq_encode_instrOf b0 b1 b2
      have heq : b0 = b := by simpa [henc] using congrArg List.head? hbytes
      exact absurd (heq ▸ hmem) h

/-- Settles O16: each word is the encoding of its instruction. -/
theorem opcodeMapSamples : Obligations.OpcodeMapSamples :=
  ⟨decodes_encode (i := .ldRrNn .hl 0x1234) rfl, decodes_encode (i := .ldRR .a .b) rfl, decodes_encode (i := .halt) rfl,
    decodes_encode (i := .jrCcE .nz 0xFC) rfl, decodes_encode (i := .callCcNn .c 0x0200) rfl,
    decodes_encode (i := .rstT 5) rfl, decodes_encode (i := .popQq .af) rfl, decodes_encode (i := .swapR .a) rfl,
    decodes_encode (i := .bitR 7 .h) rfl, decodes_encode (i := .resMemHl 0) rfl, decodes_encode (i := .setR 1 .e) rfl⟩

end Sys2Proof.Machine
end

section
/-! PROOFS. What an instruction can do, said once: it goes past its bytes, writes in turn what its rule lets it write, and
ticks its cost. The rules of the whole machine follow by induction over the writes. -/

namespace Sys2Proof.Machine

open Sys2Proof.Safety Sys2Proof.Claims

/-! ### The writes of an instruction -/

/-- The states that `i`, run with the parameters `p`, can bring `s` to by single writes. A write to F, SP, PC or a latch is
allowed only to the instructions that the tables of 10_state.md (R29 to R33) name. -/
inductive Writes (p : Params) (i : Instr) (s : State) : State → Prop
  | none : Writes p i s s
  | reg {u : State} (r : Reg8) (v : Byte) (h : Writes p i s u) : Writes p i s (u.setReg8 r v)
  | byte {u : State} (a : Word) (v : Byte) (h : Writes p i s u) : Writes p i s (u.writeByte a v)
  | f {u : State} {v : Byte} (hi : keepsFlags i = false) (hv : v &&& 0x0F = 0) (h : Writes p i s u) :
      Writes p i s { u with f := v }
  | sp {u : State} {w : Word} (hi : writesSp i = true) (h : Writes p i s u) : Writes p i s { u with sp := w }
  | pc {u : State} {w : Word} (hi : transfers i = true) (h : Writes p i s u) : Writes p i s (u.jump w)
  | halt {u : State} (hi : i = .halt) (h : Writes p i s u) : Writes p i s { u with halt := true }
  | stop {u : State} (hi : i = .stop) (h : Writes p i s u) : Writes p i s { u with stop := true }
  | ime {u : State} {b : Bool} (hi : i = .ei ∨ i = .di ∨ i = .reti) (h : Writes p i s u) : Writes p i s { u with ime := b }
  | eiPending {u : State} {b : Bool} (hb : b = true → p.eiDelay = true) (h : Writes p i s u) :
      Writes p i s { u with eiPending := b }

namespace Writes

variable {p : Params} {i : Instr} {s u v : State}

theorem flags (hi : keepsFlags i = false) (fl : Flags) (h : Writes p i s u) : Writes p i s (u.setFlags fl) :=
  .f hi (packFlags_lowNibble fl) h

theorem accumulate (hi : keepsFlags i = false) (res : Byte × Flags) (h : Writes p i s u) :
    Writes p i s (u.accumulate res) := .flags hi res.2 (.reg .a res.1 h)

theorem hl (w : Word) (h : Writes p i s u) : Writes p i s (u.setHl w) := .reg .l (loByte w) (.reg .h (hiByte w) h)

theorem pair (rr : Pair) (w : Word) (hi : rr = .sp → writesSp i = true) (h : Writes p i s u) :
    Writes p i s (u.setPair rr w) := by
  cases rr with
  | bc => exact .reg .c (loByte w) (.reg .b (hiByte w) h)
  | de => exact .reg .e (loByte w) (.reg .d (hiByte w) h)
  | hl => exact .hl w h
  | sp => exact .sp (hi rfl) h

theorem stackPair (qq : StackPair) (w : Word) (hi : qq = .af → keepsFlags i = false) (h : Writes p i s u) :
    Writes p i s (u.setStackPair qq w) := by
  cases qq with
  | bc => exact .reg .c (loByte w) (.reg .b (hiByte w) h)
  | de => exact .reg .e (loByte w) (.reg .d (hiByte w) h)
  | hl => exact .hl w h
  | af => exact .f (hi rfl) (and_f0_lowNibble (loByte w)) (.reg .a (hiByte w) h)

theorem word (a w : Word) (h : Writes p i s u) : Writes p i s (u.writeWord a w) := .byte _ _ (.byte _ _ h)

theorem push (hi : writesSp i = true) (w : Word) (h : Writes p i s u) : Writes p i s (u.push16 w) := .word _ w (.sp hi h)

theorem drop (hi : writesSp i = true) (h : Writes p i s u) : Writes p i s u.drop16 := .sp hi h

theorem disable (hi : i = .di) (h : Writes p i s u) : Writes p i s u.disableInterrupts :=
  .eiPending (b := false) nofun (.ime (b := false) (.inr (.inl hi)) h)

/-- A return overwrites PC, so going past its own bytes first makes no difference. -/
theorem ret (hpc : transfers i = true) (hsp : writesSp i = true) (len : Nat) : Writes p i (s.advance len) s.return16 :=
  .pc (u := (s.advance len).drop16) (w := s.top16) hpc (.drop hsp .none)

/-- A conditional transfer: its writes when the condition `c` holds, else none, at the cost of the one or the other (R220). -/
theorem ite {c : Bool} (h : Writes p i s u) (h' : Writes p i s v) :
    ∃ w, Writes p i s w ∧
      (.next (if c then u.tick (p.mcycles i true) else v.tick (p.mcycles i false)) : Result) =
        .next (w.tick (p.mcycles i c)) := by
  cases c
  · exact ⟨v, h', rfl⟩
  · exact ⟨u, h, rfl⟩

end Writes

/-- Every instruction but the unassigned slots completes: past its bytes, its writes, its cost (R13, R14, R302). -/
theorem execWith_writes (p : Params) {i : Instr} (hwf : WellFormed i = true) (hi : unassignedByte i = none) (s : State) :
    ∃ u, Writes p i (s.advance (instrLength i)) u ∧ execWith p i s = .next (u.tick (p.mcycles i (taken i s))) := by
  cases i with
  | prefixCb op2 => cases hwf
  | unassignedD3 | unassignedDB | unassignedDD | unassignedE3 | unassignedE4 | unassignedEB | unassignedEC | unassignedED
  | unassignedF4 | unassignedFC | unassignedFD => cases hi
  | nop => exact ⟨_, .none, rfl⟩
  | ldRR r _ | ldRN r _ | ldRMemHl r | resR _ r | setR _ r => exact ⟨_, .reg r _ .none, rfl⟩
  | ldAMemBc | ldAMemDe | ldhAMemN _ | ldAMemC | ldAMemNn _ => exact ⟨_, .reg .a _ .none, rfl⟩
  | ldMemHlR _ | ldMemHlN _ | ldMemBcA | ldMemDeA | ldhMemNA _ | ldMemCA | ldMemNnA _ | resMemHl _ | setMemHl _ =>
    exact ⟨_, .byte _ _ .none, rfl⟩
  | ldAMemHlInc | ldAMemHlDec => exact ⟨_, .hl _ (.reg .a _ .none), rfl⟩
  | ldMemHlIncA | ldMemHlDecA => exact ⟨_, .hl _ (.byte _ _ .none), rfl⟩
  | ldRrNn rr _ | incRr rr | decRr rr => exact ⟨_, .pair rr _ (by rintro rfl; rfl) .none, rfl⟩
  | ldMemNnSp nn => exact ⟨_, .word nn _ .none, rfl⟩
  | ldSpHl => exact ⟨_, .sp rfl .none, rfl⟩
  | incR r | decR r | rlcR r | rrcR r | rlR r | rrR r | slaR r | sraR r | swapR r | srlR r =>
    exact ⟨_, .flags rfl _ (.reg r _ .none), rfl⟩
  | incMemHl | decMemHl | rlcMemHl | rrcMemHl | rlMemHl | rrMemHl | slaMemHl | sraMemHl | swapMemHl | srlMemHl =>
    exact ⟨_, .flags rfl _ (.byte _ _ .none), rfl⟩
  | addAR _ | addAMemHl | addAN _ | adcAR _ | adcAMemHl | adcAN _ | subR _ | subMemHl | subN _ | sbcAR _ | sbcAMemHl
  | sbcAN _ | andR _ | andMemHl | andN _ | xorR _ | xorMemHl | xorN _ | orR _ | orMemHl | orN _ | daa | cpl =>
    exact ⟨_, .accumulate rfl _ .none, rfl⟩
  | rlca | rrca | rla | rra => exact ⟨_, .flags rfl _ (.reg .a _ .none), rfl⟩
  | cpR _ | cpMemHl | cpN _ | scf | ccf | bitR _ _ | bitMemHl _ => exact ⟨_, .flags rfl _ .none, rfl⟩
  | addHlRr _ | ldHlSpE _ => exact ⟨_, .flags rfl _ (.hl _ .none), rfl⟩
  | addSpE _ => exact ⟨_, .flags rfl _ (.sp rfl .none), rfl⟩
  | halt => exact ⟨_, .halt rfl .none, rfl⟩
  | stop => exact ⟨_, .stop rfl .none, rfl⟩
  | di => exact ⟨_, .disable rfl .none, rfl⟩
  | ei =>
    cases hdelay : p.eiDelay with
    | true => exact ⟨_, .eiPending (fun _ => hdelay) .none, by rw [execWith, execEi, hdelay]; rfl⟩
    | false => exact ⟨_, .ime (by simp) .none, by rw [execWith, execEi, hdelay]; rfl⟩
  | pushQq _ => exact ⟨_, .push rfl _ .none, rfl⟩
  | popQq qq => exact ⟨_, .stackPair qq _ (by rintro rfl; rfl) (.drop rfl .none), rfl⟩
  | jpNn _ | jpHl | jrE _ => exact ⟨_, .pc rfl .none, rfl⟩
  | callNn _ | rstT _ => exact ⟨_, .pc rfl (.push rfl _ .none), rfl⟩
  | ret => exact ⟨_, .ret rfl rfl 1, rfl⟩
  | reti => exact ⟨_, .ime (by simp) (.ret rfl rfl 1), rfl⟩
  | jpCcNn _ _ | jrCcE _ _ => exact Writes.ite (.pc rfl .none) .none
  | callCcNn _ _ => exact Writes.ite (.pc rfl (.push rfl _ .none)) .none
  | retCc _ => exact Writes.ite (.ret rfl rfl 1) .none

/-! ### What the writes leave as it was -/

namespace Writes

variable {p : Params} {i : Instr} {s u : State}

theorem clocks_eq (h : Writes p i s u) : u.mclk = s.mclk ∧ u.tclk = s.tclk := by
  induction h with
  | none => exact ⟨rfl, rfl⟩
  | _ => simpa

theorem request_eq (h : Writes p i s u) : u.irq = s.irq ∧ u.init = s.init := by
  induction h with
  | none => exact ⟨rfl, rfl⟩
  | _ => simpa

theorem pc_eq (h : Writes p i s u) (hi : transfers i = false) : u.pc = s.pc := by
  induction h with
  | none => rfl
  | pc hi' => simp [hi] at hi'
  | _ => simpa

theorem sp_eq (h : Writes p i s u) (hi : writesSp i = false) : u.sp = s.sp := by
  induction h with
  | none => rfl
  | sp hi' => simp [hi] at hi'
  | _ => simpa

theorem f_eq (h : Writes p i s u) (hi : keepsFlags i = true) : u.f = s.f := by
  induction h with
  | none => rfl
  | f hi' => simp [hi] at hi'
  | _ => simpa

theorem halt_eq (h : Writes p i s u) (hi : i ≠ .halt) : u.halt = s.halt := by
  induction h with
  | none => rfl
  | halt hi' => exact absurd hi' hi
  | _ => simpa

theorem stop_eq (h : Writes p i s u) (hi : i ≠ .stop) : u.stop = s.stop := by
  induction h with
  | none => rfl
  | stop hi' => exact absurd hi' hi
  | _ => simpa

theorem ime_eq (h : Writes p i s u) (hei : i ≠ .ei) (hdi : i ≠ .di) (hreti : i ≠ .reti) : u.ime = s.ime := by
  induction h with
  | none => rfl
  | ime hi' => simp [hei, hdi, hreti] at hi'
  | _ => simpa

theorem eiPending_false (h : Writes p i s u) (hdelay : p.eiDelay = false) (hs : s.eiPending = false) :
    u.eiPending = false := by
  induction h with
  | none => exact hs
  | eiPending hb => simpa [hdelay] using hb
  | _ => simpa

theorem lowNibble (h : Writes p i s u) (hs : s.f &&& 0x0F = 0) : u.f &&& 0x0F = 0 := by
  induction h with
  | none => exact hs
  | f _ hv => exact hv
  | _ => simpa

theorem memory_wf (h : Writes p i s u) (hs : Memory.wf s.mem = true) : Memory.wf u.mem = true := by
  induction h with
  | none => exact hs
  | byte a v _ ih => exact State.writeByte_wf ih a v
  | _ => simpa

end Writes

end Sys2Proof.Machine
end

section
/-! PROOFS. The slot 0xCB and the unassigned slots, and the rules of the whole machine: what every instruction and every
step keeps (10_state.md, 60_exceptions.md, 70_reset_and_hazards.md). -/

namespace Sys2Proof.Machine

open Sys2Proof.Safety Sys2Proof.Claims

/-! ### The slot 0xCB and the unassigned slots -/

theorem runExtendedX0_eq (p : Params) (op2 : Byte) (s : State) :
    runExtendedX0 p op2 s = execWith p (extendedX0 op2) s := by
  unfold runExtendedX0 extendedX0
  generalize (fieldY op2).toNat = y
  match y, reg8Of (fieldZ op2) with
  | 0, some _ | 1, some _ | 2, some _ | 3, some _ | 4, some _ | 5, some _ | 6, some _ | _ + 7, some _ => rfl
  | 0, none | 1, none | 2, none | 3, none | 4, none | 5, none | 6, none | _ + 7, none => rfl

/-- The dispatch follows the rows of the decoder's extended table. -/
theorem runExtended_eq (p : Params) (op2 : Byte) (s : State) :
    runExtended p op2 s = execWith p (decodeExtended op2) s := by
  unfold runExtended decodeExtended
  generalize (fieldX op2).toNat = x
  match x, reg8Of (fieldZ op2) with
  | 0, some _ | 0, none => exact runExtendedX0_eq p op2 s
  | 1, some _ | 2, some _ | _ + 3, some _ => rfl
  | 1, none | 2, none | _ + 3, none => rfl

/-- With the default `ASSIGNED` every second byte runs its extended instruction (30_encoding.md R75, R84). -/
theorem exec_prefixCb (op2 : Byte) (s : State) : exec (.prefixCb op2) s = exec (decodeExtended op2) s := by
  rw [← execWith_params (decodeExtended op2) s, ← runExtended_eq]
  rfl

/-- An extended instruction is two bytes long, costs what the slot 0xCB costs, completes, and writes neither PC nor SP. -/
theorem decodeExtended_facts : ∀ op2,
    instrLength (decodeExtended op2) = 2 ∧ mcycles (decodeExtended op2) true = extendedCost op2 ∧
      2 ≤ extendedCost op2 ∧ unassignedByte (decodeExtended op2) = none ∧ conditional (decodeExtended op2) = false ∧
      transfers (decodeExtended op2) = false ∧ writesSp (decodeExtended op2) = false := by
  refine forall_byte (forall_bitVec2 ⟨?_, ?_, ?_, ?_⟩) <;>
  refine forall_bitVec3 ⟨?_, ?_, ?_, ?_, ?_, ?_, ?_, ?_⟩ <;>
  refine forall_bitVec3 ⟨?_, ?_, ?_, ?_, ?_, ?_, ?_, ?_⟩ <;>
  exact ⟨rfl, rfl, by decide, rfl, rfl, rfl, rfl⟩

theorem decodeExtended_ne_of_length_one {op2 : Byte} {i : Instr} (hi : instrLength i = 1) : decodeExtended op2 ≠ i := by
  rintro rfl
  rw [(decodeExtended_facts op2).1] at hi
  cases hi

/-- The slot 0xCB may write what its extended instruction may: no latch, since those that write one have one byte. -/
theorem Writes.prefixCb {p : Params} {op2 : Byte} {s u : State} (h : Writes p (decodeExtended op2) s u) :
    Writes p (.prefixCb op2) s u := by
  obtain ⟨-, -, -, -, -, hpc, hsp⟩ := decodeExtended_facts op2
  induction h with
  | none => exact .none
  | reg r v _ ih => exact .reg r v ih
  | byte a v _ ih => exact .byte a v ih
  | f _ hv _ ih => exact .f rfl hv ih
  | sp hi => simp [hsp] at hi
  | pc hi => simp [hpc] at hi
  | halt hi | stop hi => exact absurd hi (decodeExtended_ne_of_length_one rfl)
  | ime hi =>
    rcases hi with hi | hi | hi
    all_goals exact absurd hi (decodeExtended_ne_of_length_one rfl)
  | eiPending hb _ ih => exact .eiPending hb ih

theorem taken_of_not_conditional {i : Instr} (h : conditional i = false) (s : State) : taken i s = true := by
  cases i with
  | jpCcNn _ _ | jrCcE _ _ | callCcNn _ _ | retCc _ => cases h
  | _ => rfl

theorem eq_prefixCb_of_not_wellFormed {i : Instr} (h : WellFormed i = false) : ∃ op2, i = .prefixCb op2 := by
  cases i with
  | prefixCb op2 => exact ⟨op2, rfl⟩
  | _ => cases h

theorem exec_of_unassignedByte {i : Instr} {b : Byte} (h : unassignedByte i = some b) (s : State) :
    exec i s = .fault (.illegalOpcode [b]) := by
  cases i <;> cases h <;> rfl

theorem execWith_of_unassignedByte {i : Instr} {b : Byte} (h : unassignedByte i = some b) (p : Params) (s : State) :
    execWith p i s = .fault (.illegalOpcode [b]) := by
  cases i <;> cases h <;> rfl

/-! ### Every instruction of this model: past its bytes, its writes, its cost -/

theorem exec_writes {i : Instr} (hi : unassignedByte i = none) (s : State) :
    ∃ u, Writes Config.params i (s.advance (instrLength i)) u ∧ exec i s = .next (u.tick (mcycles i (taken i s))) := by
  cases hwf : WellFormed i with
  | true =>
    obtain ⟨u, hu, h⟩ := execWith_writes Config.params hwf hi s
    exact ⟨u, hu, by rw [← execWith_params, h]; rfl⟩
  | false =>
    obtain ⟨op2, rfl⟩ := eq_prefixCb_of_not_wellFormed hwf
    obtain ⟨hlen, hcost, -, hun, hcond, -⟩ := decodeExtended_facts op2
    obtain ⟨u, hu, h⟩ := execWith_writes Config.params (decodeExtended_encodes op2).2 hun s
    rw [hlen] at hu
    refine ⟨u, hu.prefixCb, ?_⟩
    rw [exec_prefixCb, ← execWith_params, h, taken_of_not_conditional hcond, Config.params_mcycles, hcost]
    rfl

theorem writes_of_exec {i : Instr} {s t : State} (h : exec i s = .next t) :
    ∃ u, Writes Config.params i (s.advance (instrLength i)) u ∧ t = u.tick (mcycles i (taken i s)) := by
  cases hi : unassignedByte i with
  | some b => rw [exec_of_unassignedByte hi] at h; cases h
  | none =>
    obtain ⟨u, hu, hexec⟩ := exec_writes hi s
    cases hexec.symm.trans h
    exact ⟨u, hu, rfl⟩

theorem writes_of_execWith {p : Params} {i : Instr} {s t : State} (hwf : WellFormed i = true)
    (h : execWith p i s = .next t) :
    ∃ u, Writes p i (s.advance (instrLength i)) u ∧ t = u.tick (p.mcycles i (taken i s)) := by
  cases hi : unassignedByte i with
  | some b => rw [execWith_of_unassignedByte hi] at h; cases h
  | none =>
    obtain ⟨u, hu, hexec⟩ := execWith_writes p hwf hi s
    cases hexec.symm.trans h
    exact ⟨u, hu, rfl⟩

theorem Writes.ticked {p : Params} {i : Instr} {s u : State} {len : Nat} (h : Writes p i (s.advance len) u) (m : Nat) :
    Ticked s (u.tick m) m := by
  obtain ⟨hm, ht⟩ := h.clocks_eq
  exact ⟨by rw [State.tick_mclk, hm, State.advance_mclk], by rw [State.tick_tclk, ht, State.advance_tclk]⟩

/-- Settles O54: the inversion of `exec` leaves out the unassigned slots alone. -/
theorem onlyUnassignedSlotsStop : Obligations.OnlyUnassignedSlotsStop := by
  intro i s hi
  obtain ⟨u, -, h⟩ := exec_writes hi s
  exact ⟨_, h⟩

/-- Settles O55: the writes of an instruction leave the clocks, and what is left is the tick. -/
theorem everyInstructionTicksItsCost : Obligations.EveryInstructionTicksItsCost := by
  refine ⟨fun i s t h => ?_, fun p i s t hwf h => ?_⟩
  · obtain ⟨u, hu, rfl⟩ := writes_of_exec h
    exact hu.ticked _
  · obtain ⟨u, hu, rfl⟩ := writes_of_execWith hwf h
    exact hu.ticked _

/-- Settles O57: PC and SP through the writes of an instruction. -/
theorem pcAndSpHaveFewWriters : Obligations.PcAndSpHaveFewWriters := by
  intro i s t h
  obtain ⟨u, hu, rfl⟩ := writes_of_exec h
  exact ⟨fun hi => (hu.pc_eq hi :), fun hi => (hu.sp_eq hi :)⟩

/-- Settles O58: the latches, the request and the session flag through the writes of an instruction. -/
theorem latchesHaveFewWriters : Obligations.LatchesHaveFewWriters := by
  intro i s t h
  obtain ⟨u, hu, rfl⟩ := writes_of_exec h
  obtain ⟨hirq, hinit⟩ := hu.request_eq
  exact ⟨fun hi => (hu.halt_eq hi :), fun hi => (hu.stop_eq hi :), fun hei hdi hreti => (hu.ime_eq hei hdi hreti :), hirq, hinit⟩

/-- Settles O59: F through the writes of an instruction of the table's first row. -/
theorem flagTableFirstRow : Obligations.FlagTableFirstRow := by
  intro i s t h hi
  obtain ⟨u, hu, rfl⟩ := writes_of_exec h
  exact (hu.f_eq hi :)

/-- Settles O17: the slot 0xCB dispatches what the decoder answers, an instruction of two bytes that transfers no control. -/
theorem prefixDispatchesExtendedTable : Obligations.PrefixDispatchesExtendedTable := by
  intro op2 s
  obtain ⟨hlen, hcost, htwo, hun, hcond, hpc, -⟩ := decodeExtended_facts op2
  obtain ⟨u, hu, h⟩ := exec_writes hun s
  rw [taken_of_not_conditional hcond, hcost] at h
  refine ⟨decodeExtended op2, _, decode_extended rfl [], (exec_prefixCb op2 s).trans h, h, ?_, ?_⟩
  · rw [State.tick_pc, hu.pc_eq hpc, hlen, State.advance_pc, BitVec.toNat_add]
    rfl
  · rw [State.tick_mclk, hu.clocks_eq.1, State.advance_mclk]
    exact Nat.add_le_add_left htwo _

theorem exec_of_not_taken {i : Instr} {s : State} (hi : conditional i = true) (h : taken i s = false) :
    exec i s = .next ((s.advance (instrLength i)).tick (mcycles i false)) := by
  cases i with
  | jpCcNn cc nn => rw [exec, execJpCcNn, show s.cond cc = false from h]; rfl
  | jrCcE cc e => rw [exec, execJrCcE, show s.cond cc = false from h]; rfl
  | callCcNn cc nn => rw [exec, execCallCcNn, show s.cond cc = false from h]; rfl
  | retCc cc => rw [exec, execRetCc, show s.cond cc = false from h]; rfl
  | _ => cases hi

theorem mcycles_false_lt {i : Instr} (hi : conditional i = true) : mcycles i false < mcycles i true := by
  cases i with
  | jpCcNn _ _ | jrCcE _ _ | callCcNn _ _ | retCc _ => simp [mcycles]
  | _ => cases hi

/-- Settles O56: a transfer not taken is the advance and the lesser cost of the table. -/
theorem notTakenIsCheaper : Obligations.NotTakenIsCheaper := by
  intro i s t s' t' hi h h' htaken hnot
  obtain ⟨hm, -⟩ := everyInstructionTicksItsCost.1 i s t h
  cases (exec_of_not_taken hi hnot).symm.trans h'
  refine ⟨?_, rfl⟩
  rw [hm, htaken, State.tick_mclk, State.advance_mclk, Nat.add_sub_cancel_left, Nat.add_sub_cancel_left]
  exact mcycles_false_lt hi

/-! ### The invariants (10_state.md R41) -/

/-- An instruction keeps the invariants of a running core: it sets at most one of the two mode latches. -/
theorem exec_keeps_inv {i : Instr} {s t : State} (hs : Inv s) (hrun : s.suspended = false) (h : exec i s = .next t) :
    Inv t := by
  obtain ⟨u, hu, rfl⟩ := writes_of_exec h
  obtain ⟨hm, ht⟩ := hu.ticked (mcycles i (taken i s))
  obtain ⟨hhalt, hstop⟩ : s.halt = false ∧ s.stop = false := by simpa [State.suspended] using hrun
  refine ⟨(hu.lowNibble hs.flagNibble :), ?_, ?_, (hu.memory_wf hs.memory :),
     fun hd => (hu.eiPending_false rfl (hs.noDelay hd) :)⟩
  · have := hs.clocks
    omega
  · rintro ⟨hh, hst⟩
    by_cases hi : i = .halt
    · have : u.stop = s.stop := hu.stop_eq (by simp [hi])
      exact absurd (hstop.symm.trans (this.symm.trans hst)) (by decide)
    · have : u.halt = s.halt := hu.halt_eq hi
      exact absurd (hhalt.symm.trans (this.symm.trans hh)) (by decide)

theorem enterInterrupt_keeps_inv {s : State} (hs : Inv s) (v : Word) (p : Params) : Inv (s.enterInterrupt v p) := by
  obtain ⟨hnibble, hclocks, -, hmem, hdelay⟩ := hs
  have hwf := State.enterInterrupt_wf hmem v p
  rw [State.enterInterrupt_eq] at hwf ⊢
  refine ⟨hnibble, ?_, by simp, hwf, hdelay⟩
  show s.tclk + 4 * p.irqEntryMcycles = 4 * (s.mclk + p.irqEntryMcycles)
  omega

/-- Settles O3: the three cases of a step. -/
theorem stepKeepsInvariants : Obligations.StepKeepsInvariants := by
  intro s t hs h
  obtain ⟨-, ⟨v, -, -, rfl⟩ | ⟨-, -, rfl⟩ | ⟨-, hrun, hexec⟩⟩ := step_cases h
  · exact enterInterrupt_keeps_inv hs v Config.params
  · exact hs
  · exact exec_keeps_inv hs hrun hexec

end Sys2Proof.Machine
end

section
/-! PROOFS. The cases of a step and the host's calls (60_exceptions.md, 20_memory.md R66): one lemma for each case, and the
obligations about reset, the step and the driver. -/

namespace Sys2Proof.Machine

open Sys2Proof.Safety Sys2Proof.Claims

/-! ### The cases of a step (60_exceptions.md R300) -/

section
variable {s : State} (hinit : s.init = true)

theorem deliverable_eq_none (h : s.irq = none ∨ s.ime = false) : s.deliverable = none := by
  rcases h with h | h <;> simp [State.deliverable, h]

include hinit

theorem step_of_request {v : Word} (hirq : s.irq = some v) (hime : s.ime = true) :
    step s = .next (s.enterInterrupt v) := by
  simp [step_eq, hinit, State.deliverable, hime, hirq]

theorem step_of_suspended (hquiet : s.irq = none ∨ s.ime = false) (hmode : s.halt = true ∨ s.stop = true) :
    step s = .next s := by
  simp [step_eq, hinit, deliverable_eq_none hquiet, State.suspended, hmode]

end

theorem step_of_running {s : State} (h : Running s) : step s = exec s.fetch s := by
  obtain ⟨hinit, hquiet, hhalt, hstop⟩ := h
  simp [step_eq, hinit, deliverable_eq_none hquiet, State.suspended, hhalt, hstop]

theorem stepWith_of_running {s : State} (h : Running s) (p : Params) :
    stepWith p s =
      if s.assignedAtPc p then settle p s.fetch (execWith p s.fetch s) else raiseIllegalOpcode s.slotBytes s := by
  obtain ⟨hinit, hquiet, hhalt, hstop⟩ := h
  simp [stepWith, stepBy, hinit, deliverable_eq_none hquiet, State.suspended, hhalt, hstop]

theorem assignedAtPc_iff (p : Params) (s : State) :
    s.assignedAtPc p = true ↔ SlotAssigned p (s.readByte s.pc) (s.readByte (s.pc + 1)) := by
  unfold State.assignedAtPc SlotAssigned
  split <;> exact Iff.rfl

theorem slotBytes_eq (s : State) :
    s.slotBytes =
      if s.readByte s.pc = 0xCB then [s.readByte s.pc, s.readByte (s.pc + 1)] else [s.readByte s.pc] := by
  unfold State.slotBytes
  by_cases h : s.readByte s.pc = 0xCB
  · rw [if_pos h, if_pos h, h]
  · rw [if_neg h, if_neg h]

theorem fetch_of_decode {s : State} {i : Instr} {rest : List Byte}
    (h : decode [s.readByte s.pc, s.readByte (s.pc + 1), s.readByte (s.pc + 2)] = .ok (i, rest)) : s.fetch = i := by
  obtain ⟨rest', h'⟩ := decode_three (s.readByte s.pc) (s.readByte (s.pc + 1)) (s.readByte (s.pc + 2))
  cases h'.symm.trans h
  rfl

/-- The end of an instruction as the statements write it (46_singletons.md R258). -/
theorem settle_eq_mapNext (p : Params) (i : Instr) (res : Result) :
    settle p i res = mapNext (fun t =>
      if p.eiDelay = true ∧ t.eiPending = true ∧ i ≠ .ei then { t with ime := true, eiPending := false } else t) res := by
  cases res with
  | next t => simp [settle, mapNext, State.settleEi, and_assoc]
  | fault r | refused r => rfl

/-! ### The host's calls -/

theorem hostCall_step_of_next {p : Params} {x : Session} {t : State} (h : stepWith p x.core = .next t) :
    hostCall x .step p =
      .ok { session := { core := t, stepped := true }, status := .ok, delta := t.mclk - x.core.mclk } := by
  simp [hostCall, stepCall, h]

theorem hostCall_step_of_fault {p : Params} {x : Session} {bytes : List Byte}
    (h : stepWith p x.core = .fault (.illegalOpcode bytes)) :
    hostCall x .step p =
      .ok { session := { core := x.core, stepped := true }, status := .illegalOpcode bytes, delta := 0 } := by
  simp [hostCall, stepCall, h]

theorem quietAnswer_cases {res : Except Refusal Session} {y : Answer} (h : quietAnswer res = .ok y) : res = .ok y.session := by
  cases res with
  | ok z => cases h; rfl
  | error r => cases h

theorem loadImage_cases {x y : Session} {bytes : List Byte} {base : Word} (h : loadImage x bytes base = .ok y) :
    base.toNat + bytes.length ≤ 65536 ∧ y.core = x.core.loadBytes base.toNat bytes := by
  unfold loadImage at h
  split at h
  · cases h
  · split at h
    · cases h
    · split at h
      · cases h
      · cases h
        exact ⟨by omega, rfl⟩

theorem injectInterrupt_cases {x y : Session} {v : Word} (h : injectInterrupt x v = .ok y) : y.core = x.core.inject v := by
  unfold injectInterrupt at h
  split at h
  · cases h; rfl
  · cases h

theorem stepCall_cases {p : Params} {x : Session} {y : Answer} (h : stepCall p x = .ok y) :
    stepWith p x.core = .next y.session.core ∨ y.session.core = x.core := by
  unfold stepCall at h
  split at h
  · cases h; exact .inl ‹_›
  · cases h; exact .inr rfl
  · cases h

theorem snapshotCall_cases {x : Session} {cells : List Word} {y : Answer} (h : snapshotCall x cells = .ok y) :
    y.session = x := by
  unfold snapshotCall at h
  split at h
  · cases h; rfl
  · cases h

/-! ### The invariants (10_state.md R41) -/

theorem resetAt_inv (entry : Word) : Inv (State.resetAt entry) where
  flagNibble := by simp [State.resetAt]
  clocks := rfl
  oneMode := by simp [State.resetAt]
  memory := State.resetAt_wf entry
  noDelay := fun _ => rfl

theorem inject_keeps_inv {s : State} (hs : Inv s) (v : Word) : Inv (s.inject v) where
  flagNibble := hs.flagNibble
  clocks := hs.clocks
  oneMode := by simp
  memory := hs.memory
  noDelay := hs.noDelay

theorem loadBytes_keeps_inv {s : State} (hs : Inv s) {bytes : List Byte} {pos : Nat} (hlen : pos + bytes.length ≤ 65536) :
    Inv (s.loadBytes pos bytes) := by
  have hwf := State.loadBytes_wf bytes pos hs.memory hlen
  rw [State.loadBytes_frame]
  exact ⟨hs.flagNibble, hs.clocks, hs.oneMode, hwf, hs.noDelay⟩

theorem hostCall_keeps_inv {x : Session} {k : HostCall} {y : Answer} (hx : Inv x.core) (h : hostCall x k = .ok y) :
    Inv y.session.core := by
  cases k with
  | reset =>
    obtain rfl := Except.ok.inj h
    exact resetAt_inv _
  | loadImage bytes base =>
    obtain ⟨hlen, hcore⟩ := loadImage_cases (quietAnswer_cases h)
    exact hcore ▸ loadBytes_keeps_inv hx hlen
  | step =>
    rcases stepCall_cases h with hstep | hcore
    · exact stepKeepsInvariants _ _ hx ((stepWith_params x.core).symm.trans hstep)
    · exact hcore ▸ hx
  | injectInterrupt v => exact injectInterrupt_cases (quietAnswer_cases h) ▸ inject_keeps_inv hx v
  | snapshot cells => exact snapshotCall_cases h ▸ hx

/-- Settles O4, by induction on the calls. -/
theorem everyDriverKeepsInvariants : Obligations.EveryDriverKeepsInvariants := by
  intro ks
  induction ks with
  | nil =>
    intro x y hx h
    cases h
    exact hx
  | cons k ks ih =>
    intro x y hx h
    rw [drive] at h
    split at h
    case h_1 z hcall => exact ih z.session y (hostCall_keeps_inv hx hcall) h
    case h_2 => cases h

/-! ### Reset, the step and the host -/

/-- Settles O1: every field of the state after reset is written out in its definition. -/
theorem resetLeavesZerosAndEntryVector : Obligations.ResetLeavesZerosAndEntryVector := by
  refine ⟨fun entry => ⟨fun r => ?_, rfl, rfl, rfl, fun a => rfl, rfl, rfl, rfl, rfl, rfl, rfl, rfl, rfl⟩,
    fun p x => ⟨_, rfl, rfl, rfl⟩⟩
  cases r <;> rfl

/-- Settles O2: the lemma that the reset call of O4 uses. -/
theorem resetMeetsInvariants : Obligations.ResetMeetsInvariants := resetAt_inv

/-- Settles O5: what the bytes at PC decode to is what the step fetches, and its slot is assigned. -/
theorem stepRunsDecodedInstruction : Obligations.StepRunsDecodedInstruction := by
  intro s i rest hinit hquiet hhalt hstop hdecode
  have hrun : Running s := ⟨hinit, hquiet, hhalt, hstop⟩
  obtain rfl := fetch_of_decode hdecode
  refine ⟨step_of_running hrun, fun p hslot => ?_⟩
  rw [stepWith_of_running hrun, if_pos ((assignedAtPc_iff p s).mpr hslot), settle_eq_mapNext]

@[simp] theorem State.enterInterrupt_reg8 (s : State) (v : Word) (p : Params) (r : Reg8) :
    (s.enterInterrupt v p).reg8 r = s.reg8 r := by
  rw [State.enterInterrupt_eq]
  cases r <;> rfl

theorem pushed_of_push16 {s t : State} {w : Word} (hwf : Memory.wf s.mem = true) (hsp : t.sp = (s.push16 w).sp)
    (hmem : t.mem = (s.push16 w).mem) : Pushed s t w.toNat := by
  have hne : s.sp - 2 ≠ s.sp - 2 + 1 := by bv_omega
  rw [State.push16_sp] at hsp
  refine ⟨?_, ?_, ?_, fun a ha => ?_⟩
  · rw [hsp]
    bv_omega
  · rw [State.readByte_of_mem hmem, State.readByte_push16 hwf, hsp, if_neg hne, if_pos rfl, loByte_toNat]
  · rw [State.readByte_of_mem hmem, State.readByte_push16 hwf, hsp, if_pos rfl, hiByte_toNat]
  · obtain ⟨hlo, hhi⟩ : a ≠ s.sp - 2 ∧ a ≠ s.sp - 2 + 1 := by simpa using ha
    rw [State.readByte_of_mem hmem, State.readByte_push16 hwf, if_neg hhi, if_neg hlo]

/-- Settles O6: the entry is a push of PC and writes to the latches. -/
theorem deliverableRequestIsEntered : Obligations.DeliverableRequestIsEntered := by
  intro s v hinit hirq hime hwf
  have hstep := step_of_request hinit hirq hime
  have hregs : SameRegsExcept [] s (s.enterInterrupt v) := fun r _ => s.enterInterrupt_reg8 v Config.params r
  have hmem : (s.enterInterrupt v).mem = (s.push16 s.pc).mem := by simp [State.enterInterrupt]
  rw [State.enterInterrupt_eq] at hstep hregs hmem
  exact ⟨_, hstep, rfl, pushed_of_push16 hwf rfl hmem, rfl, rfl, rfl, rfl, rfl, rfl, hregs, rfl, rfl, rfl⟩

/-- Settles O7: the second case of a step. -/
theorem suspendedStepChangesNothing : Obligations.SuspendedStepChangesNothing := by
  intro x hinit hquiet hmode
  have hstep := step_of_suspended hinit hquiet hmode
  refine ⟨hstep, ?_⟩
  rw [hostCall_step_of_next ((stepWith_params x.core).trans hstep), Nat.sub_self]

/-- Settles O8: each call looks at INIT first, but `reset`. -/
theorem uninitializedSessionIsRefused : Obligations.UninitializedSessionIsRefused := by
  intro x k hinit
  have hstep : step x.core = .refused .uninitializedSession := by simp [step_eq, hinit]
  refine ⟨hstep, fun hk => ?_, _, rfl⟩
  cases k with
  | reset => exact absurd rfl hk
  | loadImage bytes base => simp [hostCall, loadImage, hinit, quietAnswer]
  | step => simp [hostCall, stepCall, hstep]
  | injectInterrupt v => simp [hostCall, injectInterrupt, hinit, quietAnswer]
  | snapshot cells => simp [hostCall, snapshotCall, hinit]

/-- Settles O9: an injection writes the request and the mode latches, and a snapshot does not look at the request. -/
theorem injectionStoresRequestAndWakes : Obligations.InjectionStoresRequestAndWakes := by
  intro x v hinit
  refine ⟨⟨{ session := { x with core := x.core.inject v }, status := .ok, delta := 0 }, ?_, rfl, rfl, rfl, rfl, rfl⟩,
    fun cells => ⟨⟨{ session := x, status := .ok, delta := 0, view := some (x.core.snapshot cells) },
      x.core.snapshot cells, ?_, rfl, rfl, rfl, rfl, rfl, rfl, rfl, rfl, rfl, rfl, rfl, rfl, rfl, rfl, rfl, rfl, rfl, rfl,
      rfl, List.length_map _, fun k a hk => ?_⟩, fun q => ?_⟩⟩
  · simp [hostCall, injectInterrupt, hinit, quietAnswer]
  · simp [hostCall, snapshotCall, hinit]
  · simp [State.snapshot, hk]
  · have hinit' : ({ x with core := { x.core with irq := q } } : Session).core.init = true := hinit
    rw [hostReply_snapshot hinit', hostReply_snapshot hinit, State.snapshot_irq]

/-- Settles O10: the two refusals in the order of R66, then the bytes and the frame of `loadBytes`. -/
theorem imageBytesLandAtBase : Obligations.ImageBytesLandAtBase := by
  intro x bytes base hinit hwf
  split
  case isTrue hstepped => simp [hostCall, loadImage, hinit, hstepped, quietAnswer]
  case isFalse hstepped =>
    split
    case isTrue hlen => simp [hostCall, loadImage, hinit, hstepped, hlen, quietAnswer]
    case isFalse hlen =>
      refine ⟨{ session := { x with core := x.core.loadBytes base.toNat bytes }, status := .ok, delta := 0 }, ?_, rfl,
        by simpa using hstepped, State.readByte_loadBytes bytes base.toNat hwf (by omega), ?_⟩
      · simp [hostCall, loadImage, hinit, hstepped, hlen, quietAnswer]
      · rw [State.loadBytes_frame]

/-- Settles O11: the three cases of a step through the host's call. -/
theorem stepReturnsStatusAndDelta : Obligations.StepReturnsStatusAndDelta := by
  intro x hinit
  refine ⟨fun v hirq hime => ?_, fun hquiet hmode => (suspendedStepChangesNothing x hinit hquiet hmode).2, fun hrun => ?_⟩
  · have hstep := step_of_request hinit hirq hime
    exact ⟨_, hostCall_step_of_next ((stepWith_params x.core).trans hstep), rfl, rfl, Nat.add_sub_cancel_left _ _, hstep, rfl⟩
  · have hstep := (stepWith_params x.core).trans (step_of_running hrun)
    cases hi : unassignedByte x.core.fetch with
    | some b => exact hostCall_step_of_fault (hstep.trans (exec_of_unassignedByte hi x.core))
    | none =>
      obtain ⟨t, hexec⟩ := onlyUnassignedSlotsStop x.core.fetch x.core hi
      obtain ⟨hm, -⟩ := everyInstructionTicksItsCost.1 _ _ _ hexec
      refine ⟨_, hostCall_step_of_next (hstep.trans hexec), rfl, rfl, ?_, hexec⟩
      rw [hm, Nat.add_sub_cancel_left]

/-- Settles O53: an unassigned byte at PC is fetched as its own slot, and a slot outside `ASSIGNED` is not run. -/
theorem unassignedByteFaults : Obligations.UnassignedByteFaults := by
  refine ⟨fun i b hi => ?_, fun p x hrun => ?_⟩
  · obtain ⟨henc, hmem⟩ := encode_of_unassignedByte hi
    have hwf : WellFormed i = true := by cases i <;> cases hi <;> rfl
    refine ⟨henc ▸ decodes_encode hwf, exec_of_unassignedByte hi, fun x hrun hb => ?_⟩
    have hfetch : unassignedByte x.core.fetch = some b := by
      rw [State.fetch, hb]
      exact unassignedByte_instrOf _ _ hmem
    have hstep := (step_of_running hrun).trans (exec_of_unassignedByte hfetch x.core)
    exact ⟨hstep, hostCall_step_of_fault ((stepWith_params x.core).trans hstep)⟩
  · intro b0 b1 bytes hslot
    have hstep : stepWith p x.core = .fault (.illegalOpcode bytes) := by
      rw [stepWith_of_running hrun, if_neg (mt (assignedAtPc_iff p x.core).mp hslot), slotBytes_eq]
      rfl
    exact ⟨hstep, hostCall_step_of_fault hstep⟩

end Sys2Proof.Machine
end

section
/-! PROOFS. No instruction reads the clocks or the pending request (10_state.md R32, R35): each meaning, run with other
values of them, makes the same writes before its tick. -/

namespace Sys2Proof.Machine

open Sys2Proof.Safety Sys2Proof.Claims

/-- The clocks moved on, and another request. -/
def State.retimed (dm dt : Nat) (irq : Option Word) (s : State) : State :=
  { s with mclk := s.mclk + dm, tclk := s.tclk + dt, irq := irq }

section
variable {dm dt : Nat} {irq : Option Word} {u u' v v' : State}

theorem State.retimed_tick (u : State) (m : Nat) :
    (u.tick m).retimed dm dt irq = (u.retimed dm dt irq).tick m := by
  simp [State.retimed, State.tick, Nat.add_right_comm]

theorem State.push16_retimed (u : State) (w : Word) :
    (u.retimed dm dt irq).push16 w = (u.push16 w).retimed dm dt irq := rfl

theorem State.callTo_retimed (u : State) (len : Nat) (target : Word) :
    (u.retimed dm dt irq).callTo len target = (u.callTo len target).retimed dm dt irq :=
  congrArg (·.jump target) (State.push16_retimed (u.advance len) (u.advance len).pc)

theorem State.setReg8_retimed (u : State) (r : Reg8) (v : Byte) :
    (u.retimed dm dt irq).setReg8 r v = (u.setReg8 r v).retimed dm dt irq := by
  cases r <;> rfl

theorem mapNext_retimed_tick (hu : u' = u.retimed dm dt irq) (m : Nat) :
    (.next (u'.tick m) : Result) = mapNext (State.retimed dm dt irq) (.next (u.tick m)) := by
  rw [mapNext, State.retimed_tick, hu]

theorem mapNext_retimed_tick_setHl (hu : u' = u.retimed dm dt irq) (m : Nat) (w : Word) :
    (.next ((u'.tick m).setHl w) : Result) = mapNext (State.retimed dm dt irq) (.next ((u.tick m).setHl w)) :=
  mapNext_retimed_tick (u' := u'.setHl w) (u := u.setHl w) (hu ▸ rfl) m

theorem mapNext_retimed_tick_setFlags (hu : u' = u.retimed dm dt irq) (m : Nat) (fl : Flags) :
    (.next ((u'.setFlags fl).tick m) : Result) = mapNext (State.retimed dm dt irq) (.next ((u.setFlags fl).tick m)) :=
  mapNext_retimed_tick (u' := u'.setFlags fl) (u := u.setFlags fl) (hu ▸ rfl) m

theorem mapNext_retimed_ite {c : Bool} (hu : u' = u.retimed dm dt irq) (hv : v' = v.retimed dm dt irq) (m n : Nat) :
    (.next (if c then u'.tick m else v'.tick n) : Result) =
      mapNext (State.retimed dm dt irq) (.next (if c then u.tick m else v.tick n)) := by
  cases c
  · exact mapNext_retimed_tick hv n
  · exact mapNext_retimed_tick hu m

end

theorem exec_retimed {i : Instr} (hwf : WellFormed i = true) (dm dt : Nat) (irq : Option Word) (s : State) :
    exec i (s.retimed dm dt irq) = mapNext (State.retimed dm dt irq) (exec i s) := by
  cases i with
  | prefixCb _ => cases hwf
  | unassignedD3 | unassignedDB | unassignedDD | unassignedE3 | unassignedE4 | unassignedEB | unassignedEC | unassignedED
  | unassignedF4 | unassignedFC | unassignedFD => rfl
  | ldRR r _ | ldRN r _ | ldRMemHl r | resR _ r | setR _ r =>
    exact mapNext_retimed_tick (State.setReg8_retimed (s.advance _) r _) _
  | incR r | decR r | rlcR r | rrcR r | rlR r | rrR r | slaR r | sraR r | swapR r | srlR r =>
    exact mapNext_retimed_tick_setFlags (State.setReg8_retimed (s.advance _) r _) _ _
  | pushQq qq => exact mapNext_retimed_tick (State.push16_retimed (s.advance 1) (s.stackPair qq)) _
  | callNn nn => exact mapNext_retimed_tick (State.callTo_retimed s 3 nn) _
  | rstT t => exact mapNext_retimed_tick (State.callTo_retimed s 1 (Config.rstVector t)) _
  | callCcNn _ nn => exact mapNext_retimed_ite (State.callTo_retimed s 3 nn) (by rfl) _ _
  | ldRrNn rr _ | incRr rr | decRr rr => exact mapNext_retimed_tick (by cases rr <;> rfl) _
  | popQq qq => exact mapNext_retimed_tick (by cases qq <;> rfl) _
  | ldAMemHlInc | ldAMemHlDec | ldMemHlIncA | ldMemHlDecA => exact mapNext_retimed_tick_setHl (by rfl) _ _
  | jpCcNn _ _ | jrCcE _ _ | retCc _ => exact mapNext_retimed_ite (by rfl) (by rfl) _ _
  | _ => exact mapNext_retimed_tick (by rfl) _

/-- Settles O60; the slot 0xCB runs its extended instruction. -/
theorem instructionsIgnoreClocksAndRequest : Obligations.InstructionsIgnoreClocksAndRequest := by
  intro i s dm dt irq
  cases hwf : WellFormed i with
  | true => exact exec_retimed hwf dm dt irq s
  | false =>
    obtain ⟨op2, rfl⟩ := eq_prefixCb_of_not_wellFormed hwf
    rw [exec_prefixCb, exec_prefixCb]
    exact exec_retimed (decodeExtended_encodes op2).2 dm dt irq s

end Sys2Proof.Machine
end

section
/-! PROOFS. Words in memory, and the coherence of fetch with every store (20_memory.md R52 to R63). -/

namespace Sys2Proof.Machine

open Sys2Proof.Safety Sys2Proof.Claims

/-- Settles O18: the reads after a write are the model's laws; `a` and `a + 1` differ even where `a + 1` wraps to 0. -/
theorem wordIsTwoBytesLowFirst : Obligations.WordIsTwoBytesLowFirst := by
  intro s a w b hwf
  have hne : a ≠ a + 1 := by bv_omega
  have hread := State.readByte_writeWord hwf a w
  have hlo : (s.writeWord a w).readByte a = loByte w := by rw [hread, if_neg hne, if_pos rfl]
  have hhi : (s.writeWord a w).readByte (a + 1) = hiByte w := by rw [hread, if_pos rfl]
  refine ⟨State.readByte_writeByte hwf a b, ?_, by rw [hlo, loByte_toNat], by rw [hhi, hiByte_toNat],
    fun ha ha' => by rw [hread, if_neg ha', if_neg ha], ?_, rfl, State.writeWord_wf hwf a w⟩
  · rw [State.readWord, makeWord_toNat, Nat.add_comm]
  · rw [State.readWord, hlo, hhi, makeWord_hiByte_loByte]

theorem holds_eq_cond (s : State) (cc : Cond) : holds s cc = s.cond cc := by cases cc <;> rfl

/-! ### What the next fetch reads -/

theorem getD_lookup_cons (a b : Word) (v d : Byte) (rest : List (Word × Byte)) :
    (((a, v) :: rest).lookup b).getD d = if b = a then v else (rest.lookup b).getD d := by
  by_cases h : b = a
  · simp [h]
  · rw [List.lookup_cons, beq_false_of_ne h, if_neg h]

section
variable {i : Instr} {s t : State} (hwf : Memory.wf s.mem = true) (h : exec i s = .next t)

include h in
theorem nextFetchSees_of_readByte {stored : List (Word × Byte)}
    (hread : ∀ a, t.readByte a = (stored.lookup a).getD (s.readByte a)) : NextFetchSees i s stored :=
  ⟨t, h, by simp only [State.fetch, hread]⟩

include hwf h

theorem nextFetchSees_writeByte {a : Word} {v : Byte} (hmem : t.mem = (s.writeByte a v).mem) :
    NextFetchSees i s [(a, v)] := by
  refine nextFetchSees_of_readByte h fun b => ?_
  rw [State.readByte_of_mem hmem, State.readByte_writeByte hwf]
  rw [getD_lookup_cons]
  rfl

theorem nextFetchSees_writeWord {a w : Word} (hmem : t.mem = (s.writeWord a w).mem) :
    NextFetchSees i s (wordAt a w) := by
  have hword : wordAt a w = [(a + 1, hiByte w), (a, loByte w)] := by
    have hbytes := nnBytes_eq w
    simp only [nnBytes, List.cons.injEq, and_true] at hbytes
    rw [wordAt, hbytes.1, hbytes.2]
  refine nextFetchSees_of_readByte h fun b => ?_
  rw [State.readByte_of_mem hmem, State.readByte_writeWord hwf, hword, getD_lookup_cons, getD_lookup_cons]
  rfl

end

theorem State.stepMemHl_mem (s : State) (f : Byte → Bool → Byte × Flags) (m : Nat) :
    (s.stepMemHl f m).mem = (s.writeByte s.hl (f s.readHl s.flags.c).1).mem := by
  rw [State.stepMemHl_eq]

theorem State.rotateMemHl_mem (s : State) (f : Byte → Byte × Bool) (m : Nat) :
    (s.rotateMemHl f m).mem = (s.writeByte s.hl (f s.readHl).1).mem := by
  rw [State.rotateMemHl_eq]

theorem nextFetchSees_memHl {i : Instr} {s t u : State} {v : Byte} (hwf : Memory.wf s.mem = true)
    (ht : exec i s = .next t) (hu : exec i s = .next u) (hmem : u.mem = (s.writeByte s.hl v).mem) :
    NextFetchSees i s [(s.hl, t.readByte s.hl)] := by
  obtain rfl := Host.Outcome.next.inj (hu.symm.trans ht)
  have hv : u.readByte s.hl = v := by rw [State.readByte_of_mem hmem, State.readByte_writeByte hwf, if_pos rfl]
  exact hv ▸ nextFetchSees_writeByte hwf hu hmem

/-- Settles O19: every storing form makes one write of a byte or of a word, and the fetch reads memory after it. -/
theorem storeIsSeenByNextFetch : Obligations.StoreIsSeenByNextFetch := by
  intro s hwf
  refine ⟨⟨fun r => ?_, fun n => ?_, ?_, ?_, ?_, ?_, fun n => ?_, ?_, fun nn => ?_⟩,
    ⟨fun nn => ?_, fun qq => ?_, fun nn => ?_, fun cc nn hc => ?_, fun t => ?_⟩, fun i t h hi => ?_⟩
  case refine_1 | refine_2 | refine_3 | refine_4 | refine_5 | refine_6 | refine_7 | refine_8 | refine_9 =>
    exact nextFetchSees_writeByte hwf rfl (by rfl)
  case refine_10 | refine_11 | refine_12 | refine_14 => exact nextFetchSees_writeWord hwf rfl (by rfl)
  case refine_13 =>
    have hexec : exec (.callCcNn cc nn) s = .next ((s.callTo 3 nn).tick 6) := by
      rw [exec, execCallCcNn, if_pos ((holds_eq_cond s cc).symm.trans hc)]
      rfl
    exact nextFetchSees_writeWord hwf hexec rfl
  case refine_15 =>
    simp only [List.mem_cons, List.not_mem_nil, or_false] at hi
    rcases hi with (rfl | rfl | rfl | rfl | rfl | rfl | rfl | rfl | rfl | rfl) | ⟨b, rfl⟩ | ⟨b, rfl⟩
    iterate 2 exact nextFetchSees_memHl hwf h rfl (State.stepMemHl_mem s _ _)
    iterate 6 exact nextFetchSees_memHl hwf h rfl (State.rotateMemHl_mem s _ _)
    · exact nextFetchSees_memHl (v := (swap8 s.readHl).1) hwf h rfl (by simp [State.writeHl, State.hl])
    · exact nextFetchSees_memHl hwf h rfl (State.rotateMemHl_mem s _ _)
    · exact nextFetchSees_memHl (v := res8 b s.readHl) hwf h rfl (by simp [State.writeHl, State.hl])
    · exact nextFetchSees_memHl (v := set8 b s.readHl) hwf h rfl (by simp [State.writeHl, State.hl])

end Sys2Proof.Machine
end

section
/-! PROOFS. The 8-bit and 16-bit datapaths in exact integers (00_scope.md R10, 42_arithmetic.md to 47_extended_bit.md): the
value and the flags of each, by the statements' own terms. -/

namespace Sys2Proof.Machine

open Sys2Proof.Safety Sys2Proof.Claims

/-! ### Parts of a number -/

theorem lowNibble_eq (v : Byte) : lowNibble v = v.toNat % 16 := by
  rw [lowNibble, BitVec.toNat_and]
  exact Nat.and_two_pow_sub_one_eq_mod v.toNat 4

theorem and_ff_toNat (w : Word) : (w &&& 0x00FF).toNat = w.toNat % 256 := by
  rw [BitVec.toNat_and]
  exact Nat.and_two_pow_sub_one_eq_mod w.toNat 8

theorem and_0f_toNat (w : Word) : (w &&& 0x000F).toNat = w.toNat % 16 := by
  rw [BitVec.toNat_and]
  exact Nat.and_two_pow_sub_one_eq_mod w.toNat 4

theorem toNat_eq_bit (c : Bool) : c.toNat = bit c := by cases c <;> rfl

theorem bit_le_one (c : Bool) : bit c ≤ 1 := by cases c <;> decide

theorem getLsbD_iff (v : Byte) (k : Nat) : v.getLsbD k = true ↔ v.toNat / 2 ^ k % 2 = 1 := by
  rw [BitVec.getLsbD, Nat.testBit_eq_decide_div_mod_eq, decide_eq_true_eq]

theorem getLsbD_seven_iff (v : Byte) : v.getLsbD 7 = true ↔ v.toNat ≥ 128 := by
  have := v.isLt
  rw [getLsbD_iff]
  omega

theorem getLsbD_zero_iff (v : Byte) : v.getLsbD 0 = true ↔ v.toNat % 2 = 1 := by
  rw [getLsbD_iff, pow_zero, Nat.div_one]

theorem eq_zero_iff_toNat {v : Byte} : v = 0 ↔ v.toNat = 0 := BitVec.toNat_inj.symm

/-! ### Addition and subtraction (R140, R142, R163, R164) -/

/-- The four flags are the propositions given. -/
def FlagsHold (fl : Flags) (z n h c : Prop) : Prop :=
  (fl.z = true ↔ z) ∧ (fl.n = true ↔ n) ∧ (fl.h = true ↔ h) ∧ (fl.c = true ↔ c)

theorem add8_toNat (a x : Byte) (c : Bool) : (add8 a x c).1.toNat = (a.toNat + x.toNat + bit c) % 256 := by
  rw [add8, BitVec.toNat_ofNat, toNat_eq_bit]

theorem add8_flags (a x : Byte) (c : Bool) :
    FlagsHold (add8 a x c).2 ((add8 a x c).1 = 0) False (a.toNat % 16 + x.toNat % 16 + bit c > 15)
      (a.toNat + x.toNat + bit c > 255) := by
  simp [FlagsHold, add8, lowNibble_eq, toNat_eq_bit]

theorem sub8_toNat (a x : Byte) (c : Bool) :
    ((sub8 a x c).1.toNat : Int) = ((a.toNat : Int) - x.toNat - bit c) % 256 := by
  rw [sub8, BitVec.toNat_ofInt, toNat_eq_bit, Int.toNat_of_nonneg (Int.emod_nonneg _ (by decide))]
  rfl

theorem sub8_flags (a x : Byte) (c : Bool) :
    FlagsHold (sub8 a x c).2 (((a.toNat : Int) - x.toNat - bit c) % 256 = 0) True
      (a.toNat % 16 < x.toNat % 16 + bit c) (a.toNat < x.toNat + bit c) := by
  refine ⟨?_, by simp [sub8], ?_, ?_⟩
  · rw [← sub8_toNat, Int.natCast_eq_zero, ← eq_zero_iff_toNat]
    simp [sub8]
  · simp only [sub8, lowNibble_eq, toNat_eq_bit, decide_eq_true_eq]
    omega
  · simp only [sub8, toNat_eq_bit, decide_eq_true_eq]
    omega

theorem inc8_toNat (v : Byte) (c : Bool) : (inc8 v c).1.toNat = (v.toNat + 1) % 256 := BitVec.toNat_ofNat _ _

theorem inc8_flags (v : Byte) (c : Bool) :
    FlagsHold (inc8 v c).2 (v.toNat = 255) False (v.toNat % 16 = 15) (c = true) := by
  have := v.isLt
  refine ⟨?_, by simp [inc8], ?_, Iff.rfl⟩
  · have hz : (inc8 v c).2.z = true ↔ (inc8 v c).1 = 0 := decide_eq_true_iff
    rw [hz, eq_zero_iff_toNat, inc8_toNat]
    omega
  · simp only [inc8, lowNibble_eq, decide_eq_true_eq]
    omega

theorem dec8_toNat (v : Byte) (c : Bool) : (dec8 v c).1.toNat = (v.toNat + 255) % 256 := by
  have hv : ((dec8 v c).1.toNat : Int) = ((v.toNat : Int) - 1) % 256 := by
    rw [dec8, BitVec.toNat_ofInt, Int.toNat_of_nonneg (Int.emod_nonneg _ (by decide))]
    rfl
  omega

theorem dec8_flags (v : Byte) (c : Bool) :
    FlagsHold (dec8 v c).2 (v.toNat = 1) True (v.toNat % 16 = 0) (c = true) := by
  have := v.isLt
  refine ⟨?_, by simp [dec8], ?_, Iff.rfl⟩
  · have hz : (dec8 v c).2.z = true ↔ (dec8 v c).1 = 0 := decide_eq_true_iff
    rw [hz, eq_zero_iff_toNat, dec8_toNat]
    omega
  · simp only [dec8, lowNibble_eq, decide_eq_true_eq]
    omega

theorem addPair_toNat (x y : Word) (old : Flags) : (addPair x y old).1.toNat = (x.toNat + y.toNat) % 65536 :=
  BitVec.toNat_ofNat _ _

theorem addPair_flags (x y : Word) (old : Flags) :
    FlagsHold (addPair x y old).2 (old.z = true) (old.n = true) (x.toNat % 256 + y.toNat % 256 > 255)
      (x.toNat + y.toNat > 65535) := by
  simp only [FlagsHold, addPair, and_ff_toNat, decide_eq_true_eq, and_self]

theorem spAdd_flags (sp : Word) (e : Byte) (old : Flags) :
    FlagsHold (spAdd sp e old).2 (old.z = true) (old.n = true) (sp.toNat % 16 + e.toNat % 16 > 15)
      (sp.toNat % 256 + e.toNat > 255) := by
  have he : (e &&& 0x0F).toNat = e.toNat % 16 := lowNibble_eq e
  simp only [FlagsHold, spAdd, and_ff_toNat, and_0f_toNat, he, decide_eq_true_eq, and_self]

/-! ### Logical operations, rotates and shifts (R170 to R208, R280) -/

theorem and8_flags (a x : Byte) : FlagsHold (and8 a x).2 ((and8 a x).1 = 0) False True False := by
  simp [FlagsHold, and8]

theorem xor8_flags (a x : Byte) : FlagsHold (xor8 a x).2 ((xor8 a x).1 = 0) False False False := by
  simp [FlagsHold, xor8]

theorem or8_flags (a x : Byte) : FlagsHold (or8 a x).2 ((or8 a x).1 = 0) False False False := by
  simp [FlagsHold, or8]

theorem rotateFlags_hold {c : Bool} {p : Prop} (h : c = true ↔ p) : FlagsHold (rotateFlags c) False False False p := by
  simpa [FlagsHold, rotateFlags] using h

theorem rlc8_toNat : ∀ v : Byte, (rlc8 v).1.toNat = 2 * v.toNat % 256 + v.toNat / 128 := by decide

theorem rrc8_toNat : ∀ v : Byte, (rrc8 v).1.toNat = v.toNat / 2 + 128 * (v.toNat % 2) := by decide

theorem rl8_toNat : ∀ (c : Bool) (v : Byte), (rl8 c v).1.toNat = 2 * v.toNat % 256 + bit c := by decide

theorem rr8_toNat : ∀ (c : Bool) (v : Byte), (rr8 c v).1.toNat = v.toNat / 2 + 128 * bit c := by decide

theorem sla8_toNat : ∀ v : Byte, (sla8 v).1.toNat = 2 * v.toNat % 256 := by decide

theorem sra8_toNat : ∀ v : Byte, (sra8 v).1.toNat = v.toNat / 2 + 128 * (v.toNat / 128) := by decide

theorem srl8_toNat : ∀ v : Byte, (srl8 v).1.toNat = v.toNat / 2 := by decide

theorem swap8_toNat : ∀ v : Byte, (swap8 v).1.toNat = v.toNat % 16 * 16 + v.toNat / 16 := by decide

theorem swap8_flags (v : Byte) : FlagsHold (swap8 v).2 (v.toNat = 0) False False False := by
  have hz : (swap8 v).2.z = true ↔ (swap8 v).1 = 0 := decide_eq_true_iff
  refine ⟨?_, by simp [swap8], by simp [swap8], by simp [swap8]⟩
  rw [hz, eq_zero_iff_toNat, swap8_toNat]
  omega

/-! ### Single bits (R282 to R286) -/

theorem bitFlags_hold (b : BitVec 3) (v : Byte) (c : Bool) :
    FlagsHold (bitFlags b v c) (v.toNat / 2 ^ b.toNat % 2 = 0) False True (c = true) := by
  have hz : (bitFlags b v c).z = true ↔ ¬ v.getLsbD b.toNat = true := by simp [bitFlags]
  refine ⟨?_, by simp [bitFlags], by simp [bitFlags], Iff.rfl⟩
  rw [hz, getLsbD_iff]
  omega

theorem getLsbD_oneBit (b : BitVec 3) (k : Nat) : (1#8 <<< b.toNat).getLsbD k = decide (k = b.toNat) := by
  have hb : b.toNat < 8 := b.isLt
  have hbit := BitVec.getLsbD_twoPow (w := 8) b.toNat k
  rw [decide_eq_true hb, Bool.true_and] at hbit
  exact hbit.trans (decide_eq_decide.mpr eq_comm)

theorem res8_eq {b : BitVec 3} {v w : Byte}
    (h : ∀ k < 8, w.getLsbD k = if k = b.toNat then false else v.getLsbD k) : res8 b v = w := by
  apply BitVec.eq_of_getLsbD_eq
  intro k hk
  rw [h k hk, res8, BitVec.getLsbD_and, BitVec.getLsbD_not, getLsbD_oneBit, decide_eq_true hk]
  by_cases hkb : k = b.toNat <;> simp [hkb]

theorem set8_eq {b : BitVec 3} {v w : Byte}
    (h : ∀ k < 8, w.getLsbD k = if k = b.toNat then true else v.getLsbD k) : set8 b v = w := by
  apply BitVec.eq_of_getLsbD_eq
  intro k hk
  rw [h k hk, set8, BitVec.getLsbD_or, getLsbD_oneBit]
  by_cases hkb : k = b.toNat <;> simp [hkb]

end Sys2Proof.Machine
end

section
/-! PROOFS. The instructions that change a register, the memory operand or A with their flags (40_load.md to
44_rotate_shift.md, 46_singletons.md, 47_extended_bit.md): one lemma for each shape, and the obligations that list the
forms. -/

namespace Sys2Proof.Machine

open Sys2Proof.Safety Sys2Proof.Claims

/-! ### Frames and flags -/

theorem frame_refl (s : State) : Frame [] [] s s := ⟨fun _ _ => rfl, fun _ _ => rfl, rfl, rfl, rfl, rfl, rfl, rfl⟩

theorem frame_setFlags {regs : List Reg8} {stored : List Word} {s u : State} (h : Frame regs stored s u) (fl : Flags) :
    Frame regs stored s (u.setFlags fl) := by
  obtain ⟨hregs, hmem, hcontrol⟩ := h
  exact ⟨fun r hr => (u.setFlags_reg8 fl r).trans (hregs r hr), hmem, hcontrol⟩

theorem flagsAre_of_f {t : State} {fl : Flags} {z n h c : Prop} (hf : t.f = packFlags fl) (hfl : FlagsHold fl z n h c) :
    FlagsAre t z n h c := by
  have hflags : t.flags = fl := (State.flags_of_f (s := t.setFlags fl) hf).trans (t.flags_setFlags fl)
  obtain ⟨hz, hn, hh, hc⟩ := hfl
  exact ⟨hflags ▸ hz, hflags ▸ hn, hflags ▸ hh, hflags ▸ hc, hf ▸ packFlags_lowNibble fl⟩

/-! ### The shapes -/

section
variable {i : Instr} {s : State} {fl : Flags} {z n h c : Prop} {w len m : Nat}

theorem changesReg_of_exec {r : Reg8} {v : Byte}
    (hexec : exec i s = .next ((((s.advance len).setReg8 r v).setFlags fl).tick m)) (hv : v.toNat = w)
    (hfl : FlagsHold fl z n h c) : ChangesReg i s r w z n h c len m :=
  ⟨_, hexec, by simp [hv], flagsAre_of_f rfl hfl,
    frame_advance_tick (frame_setFlags ((s.advance len).setReg8_frame r v) fl) m, by simp,
    advanced_advance_tick (by simp) (by simp) (by simp) m⟩

theorem changesMemHl_of_exec (hwf : Memory.wf s.mem = true) {v : Byte}
    (hexec : exec i s = .next ((((s.advance len).writeHl v).setFlags fl).tick m)) (hv : v.toNat = w)
    (hfl : FlagsHold fl z n h c) : ChangesMemHl i s w z n h c len m := by
  have hwf' : Memory.wf (s.advance len).mem = true := hwf
  have hread : ((s.advance len).writeByte s.hl v).readByte s.hl = v := by rw [State.readByte_writeByte hwf', if_pos rfl]
  exact ⟨_, hexec, (congrArg BitVec.toNat hread).trans hv, flagsAre_of_f rfl hfl,
    frame_advance_tick (frame_setFlags (State.writeByte_frame hwf' s.hl v) fl) m, rfl, advanced_advance_tick rfl rfl rfl m⟩

theorem changesHl_of_exec {v : Word} (hexec : exec i s = .next ((((s.advance len).setHl v).setFlags fl).tick m))
    (hv : v.toNat = w) (hfl : FlagsHold fl z n h c) :
    ∃ t, exec i s = .next t ∧ t.hl.toNat = w ∧ FlagsAre t z n h c ∧ Frame [.h, .l] [] s t ∧ t.sp = s.sp ∧
      Advanced s t len m :=
  ⟨_, hexec, (congrArg BitVec.toNat ((s.advance len).pair_setPair .hl v)).trans hv, flagsAre_of_f rfl hfl,
    frame_advance_tick (frame_setFlags ((s.advance len).setPair_frame .hl v) fl) m, rfl, advanced_advance_tick rfl rfl rfl m⟩

theorem setsFlags_of_exec (hexec : exec i s = .next (((s.advance len).setFlags fl).tick m))
    (hfl : FlagsHold fl z n h c) :
    ∃ t, exec i s = .next t ∧ FlagsAre t z n h c ∧ Frame [] [] s t ∧ t.sp = s.sp ∧ Advanced s t len m :=
  ⟨_, hexec, flagsAre_of_f rfl hfl, frame_advance_tick (frame_setFlags (frame_refl (s.advance len)) fl) m, rfl,
    advanced_advance_tick rfl rfl rfl m⟩

end

theorem aluA_frame (s : State) (res : Byte × Flags) (len m : Nat) : Frame [.a] [] s (s.aluA res len m) :=
  frame_advance_tick (frame_setFlags ((s.advance len).setReg8_frame .a res.1) res.2) m

theorem aluA_advanced (s : State) (res : Byte × Flags) (len m : Nat) : Advanced s (s.aluA res len m) len m :=
  advanced_advance_tick rfl rfl rfl m

section
variable {i : Instr} {s : State} {x : Byte} {cin : Bool} {len m : Nat}

theorem adds_of_exec (hexec : exec i s = .next (s.aluA (add8 s.a x cin) len m)) : Adds i s x (bit cin) len m :=
  ⟨_, hexec, add8_toNat s.a x cin, flagsAre_of_f rfl (add8_flags s.a x cin), aluA_frame s _ len m, rfl,
    aluA_advanced s _ len m⟩

theorem subtracts_of_exec (hexec : exec i s = .next (s.aluA (sub8 s.a x cin) len m)) : Subtracts i s x (bit cin) len m :=
  ⟨_, hexec, sub8_toNat s.a x cin, flagsAre_of_f rfl (sub8_flags s.a x cin), aluA_frame s _ len m, rfl,
    aluA_advanced s _ len m⟩

theorem compares_of_exec (hexec : exec i s = .next (s.compare x len m)) : Compares i s x len m :=
  setsFlags_of_exec hexec (sub8_flags s.a x false)

theorem combines_of_exec {res : Byte × Flags} {h : Prop} (hexec : exec i s = .next (s.aluA res len m))
    (hfl : FlagsHold res.2 (res.1 = 0) False h False) : Combines i s res.1 h len m :=
  ⟨_, hexec, rfl, flagsAre_of_f rfl hfl, aluA_frame s _ len m, rfl, aluA_advanced s _ len m⟩

end

/-! ### Increment and decrement (41_incdec.md) -/

/-- Settles O27: both forms are the shape of a changed register, with the datapath of R140 or R142. -/
theorem countsRegister : Obligations.CountsRegister := by
  intro s r
  exact ⟨decodes_encode (i := .incR r) rfl, decodes_encode (i := .decR r) rfl,
    changesReg_of_exec rfl (inc8_toNat _ _) (inc8_flags _ _), changesReg_of_exec rfl (dec8_toNat _ _) (dec8_flags _ _)⟩

/-- Settles O28: the memory forms take the datapaths of the register forms, the pair forms count modulo 65536. -/
theorem countsMemoryByteAndPair : Obligations.CountsMemoryByteAndPair := by
  intro s
  refine ⟨decodes_encode (i := .incMemHl) rfl, decodes_encode (i := .decMemHl) rfl, fun hwf => ⟨?_, ?_⟩,
    fun rr => ⟨decodes_encode (i := .incRr rr) rfl, decodes_encode (i := .decRr rr) rfl, ?_, ?_⟩⟩
  · exact changesMemHl_of_exec hwf rfl (inc8_toNat _ _) (inc8_flags _ _)
  · exact changesMemHl_of_exec hwf rfl (dec8_toNat _ _) (dec8_flags _ _)
  · have hw : (s.pair rr + 1).toNat = ((s.pair rr).toNat + 1) % 65536 := by bv_omega
    exact hw ▸ writesPair_of_exec rfl
  · have hw : (s.pair rr - 1).toNat = ((s.pair rr).toNat + 65535) % 65536 := by bv_omega
    exact hw ▸ writesPair_of_exec rfl

/-! ### Arithmetic and logic (42_arithmetic.md, 43_logical.md) -/

/-- Settles O29: every form is the shape of `adds_of_exec`, with its operand and carry. -/
theorem addsWithAllFlags : Obligations.AddsWithAllFlags := by
  intro s
  refine ⟨fun r => ⟨decodes_encode (i := .addAR r) rfl, ?_, decodes_encode (i := .adcAR r) rfl, ?_⟩,
    ⟨decodes_encode (i := .addAMemHl) rfl, ?_⟩, ⟨decodes_encode (i := .adcAMemHl) rfl, ?_⟩,
    fun n => ⟨decodes_encode (i := .addAN n) rfl, ?_, decodes_encode (i := .adcAN n) rfl, ?_⟩⟩
  case refine_1 | refine_3 | refine_5 => exact adds_of_exec (cin := false) rfl
  case refine_2 | refine_4 | refine_6 => exact adds_of_exec (cin := s.flags.c) rfl

/-- Settles O30: every form is the shape of `subtracts_of_exec`, with its operand and carry. -/
theorem subtractsWithAllFlags : Obligations.SubtractsWithAllFlags := by
  intro s
  refine ⟨fun r => ⟨decodes_encode (i := .subR r) rfl, ?_, decodes_encode (i := .sbcAR r) rfl, ?_⟩,
    ⟨decodes_encode (i := .subMemHl) rfl, ?_⟩, ⟨decodes_encode (i := .sbcAMemHl) rfl, ?_⟩,
    fun n => ⟨decodes_encode (i := .subN n) rfl, ?_, decodes_encode (i := .sbcAN n) rfl, ?_⟩⟩
  case refine_1 | refine_3 | refine_5 => exact subtracts_of_exec (cin := false) rfl
  case refine_2 | refine_4 | refine_6 => exact subtracts_of_exec (cin := s.flags.c) rfl

/-- Settles O31: the sum of HL is `addPair`, the SP-relative sums are `spAdd`. -/
theorem sixteenBitArithmetic : Obligations.SixteenBitArithmetic := by
  intro s
  refine ⟨fun rr => ⟨decodes_encode (i := .addHlRr rr) rfl, ?_⟩,
    fun e => ⟨decodes_encode (i := .addSpE e) rfl, decodes_encode (i := .ldHlSpE e) rfl, ?_, ?_⟩⟩
  · exact changesHl_of_exec rfl (addPair_toNat s.hl (s.pair rr) s.flags) (addPair_flags s.hl (s.pair rr) s.flags)
  · exact ⟨_, rfl, displace_toNat s.sp e, flagsAre_of_f rfl (spAdd_flags s.sp e s.flags),
      frame_advance_tick (frame_setFlags ((s.advance 2).setPair_frame .sp (displace s.sp e)) _) 4,
      advanced_advance_tick rfl rfl rfl 4⟩
  · exact changesHl_of_exec rfl (displace_toNat s.sp e) (spAdd_flags s.sp e s.flags)

/-- Settles O32: every form is the shape of `combines_of_exec` or of `compares_of_exec`, with its operand. -/
theorem combinesBitwiseAndCompares : Obligations.CombinesBitwiseAndCompares := by
  intro s
  exact ⟨fun r =>
      ⟨⟨decodes_encode (i := .andR r) rfl, combines_of_exec rfl (and8_flags s.a (s.reg8 r))⟩,
        ⟨decodes_encode (i := .xorR r) rfl, combines_of_exec rfl (xor8_flags s.a (s.reg8 r))⟩,
        ⟨decodes_encode (i := .orR r) rfl, combines_of_exec rfl (or8_flags s.a (s.reg8 r))⟩,
        decodes_encode (i := .cpR r) rfl, compares_of_exec rfl⟩,
    ⟨decodes_encode (i := .andMemHl) rfl, combines_of_exec rfl (and8_flags s.a s.readHl)⟩,
    ⟨decodes_encode (i := .xorMemHl) rfl, combines_of_exec rfl (xor8_flags s.a s.readHl)⟩,
    ⟨decodes_encode (i := .orMemHl) rfl, combines_of_exec rfl (or8_flags s.a s.readHl)⟩,
    ⟨decodes_encode (i := .cpMemHl) rfl, compares_of_exec rfl⟩, fun n =>
      ⟨⟨decodes_encode (i := .andN n) rfl, combines_of_exec rfl (and8_flags s.a n)⟩,
        ⟨decodes_encode (i := .xorN n) rfl, combines_of_exec rfl (xor8_flags s.a n)⟩,
        ⟨decodes_encode (i := .orN n) rfl, combines_of_exec rfl (or8_flags s.a n)⟩,
        decodes_encode (i := .cpN n) rfl, compares_of_exec rfl⟩⟩

/-! ### Rotates and shifts (44_rotate_shift.md) -/

/-- The flags after an operation that ejects bit 7. -/
theorem rotateFlags_seven (v : Byte) : FlagsHold (rotateFlags (v.getLsbD 7)) False False False (v.toNat ≥ 128) :=
  rotateFlags_hold (getLsbD_seven_iff v)

/-- The flags after an operation that ejects bit 0. -/
theorem rotateFlags_zero (v : Byte) : FlagsHold (rotateFlags (v.getLsbD 0)) False False False (v.toNat % 2 = 1) :=
  rotateFlags_hold (getLsbD_zero_iff v)

/-- Settles O33: a rotate of A is the shape of a changed register. -/
theorem rotatesAccumulator : Obligations.RotatesAccumulator := by
  intro s
  exact ⟨decodes_encode (i := .rlca) rfl, decodes_encode (i := .rla) rfl, decodes_encode (i := .rrca) rfl,
    decodes_encode (i := .rra) rfl,
    changesReg_of_exec (r := .a) rfl (rlc8_toNat s.a) (rotateFlags_seven s.a),
    changesReg_of_exec (r := .a) rfl (rl8_toNat s.flags.c s.a) (rotateFlags_seven s.a),
    changesReg_of_exec (r := .a) rfl (rrc8_toNat s.a) (rotateFlags_zero s.a),
    changesReg_of_exec (r := .a) rfl (rr8_toNat s.flags.c s.a) (rotateFlags_zero s.a)⟩

/-- Settles O34: the four rotates on a register and on the memory operand. -/
theorem rotatesOperand : Obligations.RotatesOperand := by
  intro s
  exact ⟨fun r =>
      ⟨⟨decodes_encode (i := .rlcR r) rfl, changesReg_of_exec rfl (rlc8_toNat _) (rotateFlags_seven _)⟩,
        ⟨decodes_encode (i := .rrcR r) rfl, changesReg_of_exec rfl (rrc8_toNat _) (rotateFlags_zero _)⟩,
        ⟨decodes_encode (i := .rlR r) rfl, changesReg_of_exec rfl (rl8_toNat _ _) (rotateFlags_seven _)⟩,
        decodes_encode (i := .rrR r) rfl, changesReg_of_exec rfl (rr8_toNat _ _) (rotateFlags_zero _)⟩,
    fun hwf =>
      ⟨⟨decodes_encode (i := .rlcMemHl) rfl, changesMemHl_of_exec hwf rfl (rlc8_toNat _) (rotateFlags_seven _)⟩,
        ⟨decodes_encode (i := .rrcMemHl) rfl, changesMemHl_of_exec hwf rfl (rrc8_toNat _) (rotateFlags_zero _)⟩,
        ⟨decodes_encode (i := .rlMemHl) rfl, changesMemHl_of_exec hwf rfl (rl8_toNat _ _) (rotateFlags_seven _)⟩,
        decodes_encode (i := .rrMemHl) rfl, changesMemHl_of_exec hwf rfl (rr8_toNat _ _) (rotateFlags_zero _)⟩⟩

/-- Settles O35: the three shifts on a register and on the memory operand. -/
theorem shiftsOperand : Obligations.ShiftsOperand := by
  intro s
  exact ⟨fun r => ⟨decodes_encode (i := .slaR r) rfl, decodes_encode (i := .sraR r) rfl, decodes_encode (i := .srlR r) rfl⟩,
    decodes_encode (i := .slaMemHl) rfl, decodes_encode (i := .sraMemHl) rfl, decodes_encode (i := .srlMemHl) rfl,
    fun r => ⟨changesReg_of_exec rfl (sla8_toNat _) (rotateFlags_seven _),
      changesReg_of_exec rfl (sra8_toNat _) (rotateFlags_zero _), changesReg_of_exec rfl (srl8_toNat _) (rotateFlags_zero _)⟩,
    fun hwf => ⟨changesMemHl_of_exec hwf rfl (sla8_toNat _) (rotateFlags_seven _),
      changesMemHl_of_exec hwf rfl (sra8_toNat _) (rotateFlags_zero _),
      changesMemHl_of_exec hwf rfl (srl8_toNat _) (rotateFlags_zero _)⟩⟩

/-! ### SWAP, BIT, RES, SET (47_extended_bit.md) -/

/-- Settles O36: both forms write `swap8` of the operand. -/
theorem swapsNibbles : Obligations.SwapsNibbles := by
  intro s
  exact ⟨fun r => decodes_encode (i := .swapR r) rfl, decodes_encode (i := .swapMemHl) rfl,
    fun r => changesReg_of_exec rfl (swap8_toNat _) (swap8_flags _),
    fun hwf => changesMemHl_of_exec hwf rfl (swap8_toNat _) (swap8_flags _)⟩

/-- Settles O37: BIT writes the flags alone. -/
theorem testsBit : Obligations.TestsBit := by
  intro s b
  exact ⟨fun r => decodes_encode (i := .bitR b r) rfl, decodes_encode (i := .bitMemHl b) rfl,
    fun r => setsFlags_of_exec rfl (bitFlags_hold b (s.reg8 r) s.flags.c),
    setsFlags_of_exec rfl (bitFlags_hold b s.readHl s.flags.c)⟩

/-- Settles O38: RES and SET load a register or store a byte, the one that the bits of `w` determine. -/
theorem clearsOrSetsBit : Obligations.ClearsOrSetsBit := by
  intro s b hwf
  refine ⟨⟨fun r => ⟨decodes_encode (i := .resR b r) rfl, decodes_encode (i := .setR b r) rfl⟩,
    decodes_encode (i := .resMemHl b) rfl, decodes_encode (i := .setMemHl b) rfl⟩, fun v w hbits => ?_, fun v w hbits => ?_⟩
  · obtain rfl := res8_eq hbits
    exact ⟨fun r hr => hr ▸ loadsReg_of_exec rfl, fun hm => hm ▸ storesByte_of_exec hwf rfl⟩
  · obtain rfl := set8_eq hbits
    exact ⟨fun r hr => hr ▸ loadsReg_of_exec rfl, fun hm => hm ▸ storesByte_of_exec hwf rfl⟩

/-! ### Singletons (46_singletons.md) -/

/-- Settles O48: NOP only moves PC and the clocks on. -/
theorem nopOnlyAdvances : Obligations.NopOnlyAdvances := fun s =>
  ⟨decodes_encode (i := .nop) rfl, _, rfl, frame_advance_tick (frame_refl (s.advance 1)) 1, rfl, rfl,
    advanced_advance_tick rfl rfl rfl 1⟩

/-- Settles O51: CPL changes A, SCF and CCF the flags alone. -/
theorem flagSingletons : Obligations.FlagSingletons := by
  intro s
  have hnot : (~~~s.a).toNat = 255 - s.a.toNat := BitVec.toNat_not
  exact ⟨decodes_encode (i := .cpl) rfl, decodes_encode (i := .scf) rfl, decodes_encode (i := .ccf) rfl,
    changesReg_of_exec (r := .a) rfl hnot (by simp [FlagsHold]), setsFlags_of_exec rfl (by simp [FlagsHold]),
    setsFlags_of_exec rfl (by simp [FlagsHold])⟩

/-- Settles O52: one latch each, and the frame is that of going past one byte. -/
theorem latchSingletons : Obligations.LatchSingletons := by
  intro s
  refine ⟨decodes_encode (i := .halt) rfl, decodes_encode (i := .stop) rfl, decodes_encode (i := .di) rfl,
    decodes_encode (i := .ei) rfl, ⟨({ s with halt := true }.advance 1).tick 1, rfl, rfl, ?_⟩,
    ⟨({ s with stop := true }.advance 1).tick 1, rfl, rfl, ?_⟩,
    ⟨({ s with ime := false, eiPending := false }.advance 1).tick 1, rfl, rfl, ?_⟩,
    ⟨({ s with ime := true }.advance 1).tick 1, rfl, rfl, ?_⟩, fun p hdelay => ?_⟩
  case refine_1 | refine_2 | refine_3 | refine_4 =>
    exact ⟨frame_advance_tick (frame_refl _) 1, rfl, rfl, advanced_advance_tick rfl rfl rfl 1⟩
  case refine_5 =>
    have hexec : execWith p .ei s = .next (({ s with eiPending := true }.advance 1).tick (p.mcycles .ei true)) := by
      rw [execWith, execEi, hdelay]
      rfl
    exact ⟨_, hexec, rfl, frame_advance_tick (frame_refl _) _, rfl, rfl, advanced_advance_tick rfl rfl rfl _⟩

end Sys2Proof.Machine
end

section
/-! PROOFS. High-page and HL-stepping loads (40_load.md), the stack and control flow (45_control_flow.md), and the return
from an interrupt (60_exceptions.md). -/

namespace Sys2Proof.Machine

open Sys2Proof.Safety Sys2Proof.Claims

/-! ### Loads through the high page and through HL+ and HL- -/

theorem eq_highAddr {n : Byte} {w : Word} (h : w.toNat = 0xFF00 + n.toNat) : w = highAddr 0xFF n := by
  apply BitVec.eq_of_toNat_eq
  rw [h, highAddr, makeWord_toNat]
  rfl

/-- Settles O22: the four forms are the model's load and store of A, at the address `{0xFF, n}` or `{0xFF, C}`. -/
theorem highPageIsPlainMemory : Obligations.HighPageIsPlainMemory := by
  intro s n hi lo hwf hhi hlo
  obtain rfl := eq_highAddr hhi
  obtain rfl := eq_highAddr hlo
  exact ⟨decodes_encode (i := .ldhAMemN n) rfl, decodes_encode (i := .ldhMemNA n) rfl, decodes_encode (i := .ldAMemC) rfl,
    decodes_encode (i := .ldMemCA) rfl, loadsReg_of_exec_loadA rfl, storesByte_of_exec_storeA hwf rfl,
    loadsReg_of_exec_loadA rfl, storesByte_of_exec_storeA hwf rfl⟩

theorem frame_trans {regs regs' : List Reg8} {stored stored' : List Word} {s t u : State} (h : Frame regs stored s t)
    (h' : Frame regs' stored' t u) : Frame (regs ++ regs') (stored ++ stored') s u := by
  obtain ⟨hregs, hmem, hhalt, hstop, hime, hirq, hinit, hei⟩ := h
  obtain ⟨hregs', hmem', hhalt', hstop', hime', hirq', hinit', hei'⟩ := h'
  refine ⟨fun r hr => ?_, fun a ha => ?_, hhalt'.trans hhalt, hstop'.trans hstop, hime'.trans hime, hirq'.trans hirq,
    hinit'.trans hinit, hei'.trans hei⟩
  · rw [List.mem_append, not_or] at hr
    exact (hregs' r hr.2).trans (hregs r hr.1)
  · rw [List.mem_append, not_or] at ha
    exact (hmem' a ha.2).trans (hmem a ha.1)

theorem hl_setHl (s : State) (w : Word) : (s.setHl w).hl = w := s.pair_setPair .hl w

theorem advanced_setHl {s : State} {len m : Nat} (t : State) (w : Word) (h : Advanced s t len m) :
    Advanced s (t.setHl w) len m := h

/-- The count of HL after an access: one up, or one down modulo 65536. -/
theorem loadsStepHl_load {i : Instr} {s : State} {w : Word} {k : Nat} (h : exec i s = .next ((s.loadA s.hl 1 2).setHl w))
    (hw : w.toNat = (s.hl.toNat + k) % 65536) :
    ∃ t, exec i s = .next t ∧ t.a = s.readByte s.hl ∧ t.hl.toNat = (s.hl.toNat + k) % 65536 ∧
      Frame [.a, .h, .l] [] s t ∧ t.f = s.f ∧ t.sp = s.sp ∧ Advanced s t 1 2 :=
  ⟨_, h, rfl, by rw [hl_setHl, hw],
    frame_trans (frame_advance_tick ((s.advance 1).setReg8_frame .a (s.readByte s.hl)) 2)
      ((s.loadA s.hl 1 2).setPair_frame .hl w),
    by simp [State.loadA], by simp [State.loadA], advanced_setHl (s.loadA s.hl 1 2) w (advanced_advance_tick rfl rfl rfl 2)⟩

theorem loadsStepHl_store {i : Instr} {s : State} (hwf : Memory.wf s.mem = true) {w : Word} {k : Nat}
    (h : exec i s = .next ((s.storeA s.hl 1 2).setHl w)) (hw : w.toNat = (s.hl.toNat + k) % 65536) :
    ∃ t, exec i s = .next t ∧ t.readByte s.hl = s.a ∧ t.hl.toNat = (s.hl.toNat + k) % 65536 ∧
      Frame [.h, .l] [s.hl] s t ∧ t.f = s.f ∧ t.sp = s.sp ∧ Advanced s t 1 2 := by
  have hwf' : Memory.wf (s.advance 1).mem = true := hwf
  have hread : ((s.advance 1).writeByte s.hl s.a).readByte s.hl = s.a := by rw [State.readByte_writeByte hwf', if_pos rfl]
  exact ⟨_, h, hread, by rw [hl_setHl, hw],
    frame_trans (frame_advance_tick (State.writeByte_frame hwf' s.hl s.a) 2)
      ((s.storeA s.hl 1 2).setPair_frame .hl w),
    by simp [State.storeA], by simp [State.storeA],
    advanced_setHl (s.storeA s.hl 1 2) w (advanced_advance_tick (by simp) (by simp) (by simp) 2)⟩

/-- Settles O23: the access is that of the old HL, whatever the count writes to HL after it. -/
theorem loadsStepHl : Obligations.LoadsStepHl := by
  intro s hwf
  have hup : (s.hl + 1).toNat = (s.hl.toNat + 1) % 65536 := by bv_omega
  have hdown : (s.hl - 1).toNat = (s.hl.toNat + 65535) % 65536 := by bv_omega
  refine ⟨decodes_encode (i := .ldAMemHlInc) rfl, decodes_encode (i := .ldAMemHlDec) rfl,
    decodes_encode (i := .ldMemHlIncA) rfl, decodes_encode (i := .ldMemHlDecA) rfl, fun i k hik => ?_, fun i k hik => ?_⟩
  · simp only [List.mem_cons, List.not_mem_nil, or_false, Prod.mk.injEq] at hik
    obtain ⟨rfl, rfl⟩ | ⟨rfl, rfl⟩ := hik
    · exact loadsStepHl_load rfl hup
    · exact loadsStepHl_load rfl hdown
  · simp only [List.mem_cons, List.not_mem_nil, or_false, Prod.mk.injEq] at hik
    obtain ⟨rfl, rfl⟩ | ⟨rfl, rfl⟩ := hik
    · exact loadsStepHl_store hwf rfl hup
    · exact loadsStepHl_store hwf rfl hdown

/-! ### Jumps -/

theorem jumpsTo_of_exec {i : Instr} {s : State} {w : Word} {target m : Nat}
    (h : exec i s = .next ((s.jump w).tick m)) (hw : w.toNat = target) : JumpsTo i s target m :=
  ⟨_, h, hw, frame_advance_tick (len := 0) (frame_refl s) m, rfl, rfl, rfl, rfl⟩

/-- A conditional transfer whose condition fails goes past its bytes and nothing else. -/
theorem jumpsTo_of_not_taken {i : Instr} {s : State} (hi : conditional i = true) (h : taken i s = false) :
    JumpsTo i s ((s.pc.toNat + instrLength i) % 65536) (mcycles i false) := by
  refine jumpsTo_of_exec (w := s.pc + BitVec.ofNat 16 (instrLength i)) (exec_of_not_taken hi h) ?_
  rw [BitVec.toNat_add, BitVec.toNat_ofNat, Nat.add_mod_mod]

theorem cond_eq_true {s : State} {cc : Cond} (h : holds s cc = true) : s.cond cc = true :=
  (holds_eq_cond s cc).symm.trans h

theorem cond_eq_false {s : State} {cc : Cond} (h : ¬ holds s cc = true) : s.cond cc = false :=
  (holds_eq_cond s cc).symm.trans (Bool.eq_false_of_not_eq_true h)

/-- Settles O26: HL is the target itself. -/
theorem hlMovesToSpOrPc : Obligations.HlMovesToSpOrPc := fun s =>
  ⟨decodes_encode (i := .ldSpHl) rfl, decodes_encode (i := .jpHl) rfl,
    ⟨_, rfl, rfl, frame_advance_tick ((s.advance 1).setPair_frame .sp s.hl) 2, rfl, advanced_advance_tick rfl rfl rfl 2⟩,
    jumpsTo_of_exec rfl rfl⟩

/-- Settles O42: the two outcomes are the branches of the condition. -/
theorem jumpsAbsolute : Obligations.JumpsAbsolute := by
  intro s nn
  refine ⟨decodes_nnBytes (i := .jpNn nn) rfl rfl, jumpsTo_of_exec rfl rfl,
    fun cc => ⟨decodes_nnBytes (i := .jpCcNn cc nn) rfl rfl, ?_⟩⟩
  split
  case isTrue hc =>
    refine jumpsTo_of_exec (w := nn) ?_ rfl
    rw [exec, execJpCcNn, if_pos (cond_eq_true hc)]
    rfl
  case isFalse hc => exact jumpsTo_of_not_taken (i := .jpCcNn cc nn) rfl (cond_eq_false hc)

theorem displace_advance_toNat (s : State) (e : Byte) :
    (displace (s.advance 2).pc e).toNat = (((s.pc.toNat : Int) + 2 + e.toInt) % 65536).toNat := by
  rw [displace_toNat, State.advance_pc]
  congr 1
  have : ((s.pc + BitVec.ofNat 16 2).toNat : Int) = ((s.pc.toNat : Int) + 2) % 65536 := by
    rw [BitVec.toNat_add]
    rfl
  omega

/-- Settles O43: the displacement is added to PC past the two bytes. -/
theorem jumpsRelative : Obligations.JumpsRelative := by
  intro s e
  refine ⟨decodes_encode (i := .jrE e) rfl, jumpsTo_of_exec rfl (displace_advance_toNat s e),
    fun cc => ⟨decodes_encode (i := .jrCcE cc e) rfl, ?_⟩⟩
  split
  case isTrue hc =>
    refine jumpsTo_of_exec (w := displace (s.advance 2).pc e) ?_ (displace_advance_toNat s e)
    rw [exec, execJrCcE, if_pos (cond_eq_true hc)]
    rfl
  case isFalse hc => exact jumpsTo_of_not_taken (i := .jrCcE cc e) rfl (cond_eq_false hc)

/-! ### The stack -/

/-- Settles O39: the frame is that of one word pushed. -/
theorem pushesPair : Obligations.PushesPair := by
  intro s qq hwf
  have hwf' : Memory.wf (s.advance 1).mem = true := hwf
  exact ⟨decodes_encode (i := .pushQq qq) rfl, _, rfl, pushed_of_push16 (s := s.advance 1) hwf' (State.tick_sp _ _) (State.tick_mem _ _),
    fun r _ => by simp, by simp, by simp [SameControl], advanced_advance_tick (by simp) (by simp) (by simp) 4⟩

theorem sp_add_two_toNat (w : Word) : (w + 2).toNat = (w.toNat + 2) % 65536 := by bv_omega

theorem State.top16_eq (s : State) : s.top16 = makeWord (s.readByte (s.sp + 1)) (s.readByte s.sp) := rfl

theorem drop16_frame (s : State) : Frame [] [] s s.drop16 :=
  ⟨fun r _ => s.drop16_reg8 r, fun a _ => s.drop16_readByte a, by simp [SameControl]⟩

/-- Settles O40: the two bytes of the word on top of the stack are those of the pair. -/
theorem popsPair : Obligations.PopsPair := by
  intro s qq
  refine ⟨decodes_encode (i := .popQq qq) rfl, _, rfl, ?_, advanced_advance_tick (by simp) (by simp) (by simp) 3, ?_⟩
  · rw [State.tick_sp, State.setStackPair_sp]
    exact sp_add_two_toNat s.sp
  · have hhi : hiByte s.top16 = s.readByte (s.sp + 1) := hiByte_makeWord _ _
    have hlo : loByte s.top16 = s.readByte s.sp := loByte_makeWord _ _
    have hframe {regs : List Reg8} {u : State} (h : Frame regs [] (s.advance 1).drop16 u) : Frame regs [] s (u.tick 3) :=
      frame_advance_tick (frame_trans (drop16_frame (s.advance 1)) h) 3
    cases qq with
    | bc => exact ⟨hhi, hlo, rfl, hframe ((s.advance 1).drop16.setPair_frame .bc s.top16)⟩
    | de => exact ⟨hhi, hlo, rfl, hframe ((s.advance 1).drop16.setPair_frame .de s.top16)⟩
    | hl => exact ⟨hhi, hlo, rfl, hframe ((s.advance 1).drop16.setPair_frame .hl s.top16)⟩
    | af => exact ⟨hhi, congrArg (· &&& 0xF0) hlo, hframe ((s.advance 1).drop16.setReg8_frame .a (hiByte s.top16))⟩

/-- A pair written with the old pair of `s`, in a state with the registers of `s`, leaves every register as in `s`. -/
theorem setStackPair_reg8_self {s u : State} (hu : ∀ r, u.reg8 r = s.reg8 r) (qq : StackPair) (r : Reg8) :
    (u.setStackPair qq (s.stackPair qq)).reg8 r = s.reg8 r := by
  have hr := hu r
  cases qq with
  | bc => cases r with
    | b => exact hiByte_makeWord s.b s.c
    | c => exact loByte_makeWord s.b s.c
    | _ => exact hr
  | de => cases r with
    | d => exact hiByte_makeWord s.d s.e
    | e => exact loByte_makeWord s.d s.e
    | _ => exact hr
  | hl => cases r with
    | h => exact hiByte_makeWord s.h s.l
    | l => exact loByte_makeWord s.h s.l
    | _ => exact hr
  | af => cases r with
    | a => exact hiByte_makeWord s.a s.f
    | _ => exact hr

/-! ### Calls and returns -/

theorem callsTo_of_exec {i : Instr} {s : State} (hwf : Memory.wf s.mem = true) {target : Word} {len m w n : Nat}
    (h : exec i s = .next ((s.callTo len target).tick m)) (hw : (s.pc.toNat + len) % 65536 = w) (hn : target.toNat = n) :
    CallsTo i s w n m := by
  have hwf' : Memory.wf (s.advance len).mem = true := hwf
  have hpushed : Pushed s ((s.callTo len target).tick m) (s.advance len).pc.toNat :=
    pushed_of_push16 (s := s.advance len) hwf' (by simp [State.callTo]) (by simp [State.callTo])
  rw [State.advance_pc, BitVec.toNat_add, BitVec.toNat_ofNat, Nat.add_mod_mod, hw] at hpushed
  exact ⟨_, h, hpushed, hn, fun r _ => by simp [State.callTo], by simp [SameControl, State.callTo],
    by simp [State.callTo], by simp [Ticked, State.callTo]⟩

/-- Settles O44: each form pushes the PC past its own bytes. -/
theorem callsPushReturnAddress : Obligations.CallsPushReturnAddress := by
  intro s hwf
  refine ⟨fun nn => ⟨decodes_nnBytes (i := .callNn nn) rfl rfl, callsTo_of_exec hwf rfl rfl rfl,
    fun cc => ⟨decodes_nnBytes (i := .callCcNn cc nn) rfl rfl, ?_⟩⟩,
    fun t => ⟨decodes_encode (i := .rstT t) rfl, callsTo_of_exec hwf rfl rfl ?_⟩⟩
  · split
    case isTrue hc =>
      refine callsTo_of_exec (len := 3) (target := nn) hwf ?_ rfl rfl
      rw [exec, execCallCcNn, if_pos (cond_eq_true hc)]
      rfl
    case isFalse hc => exact jumpsTo_of_not_taken (i := .callCcNn cc nn) rfl (cond_eq_false hc)
  · have := t.isLt
    rw [Config.params_rstVector, BitVec.toNat_ofNat]
    omega

theorem top16_toNat (s : State) : s.top16.toNat = (s.readByte s.sp).toNat + 256 * (s.readByte (s.sp + 1)).toNat := by
  rw [State.top16_eq, makeWord_toNat, Nat.add_comm]

theorem returned_return16 (s : State) (m : Nat) : Returned s (s.return16.tick m) := ⟨top16_toNat s, sp_add_two_toNat s.sp⟩

theorem return16_frame (s : State) (m : Nat) : Frame [] [] s (s.return16.tick m) :=
  ⟨fun r _ => by simp [State.return16], fun a _ => by simp [State.return16], by simp [SameControl, State.return16]⟩

/-- Settles O45: each form drops one word of the stack into PC. -/
theorem returnsPopIntoPc : Obligations.ReturnsPopIntoPc := by
  intro s
  refine ⟨decodes_encode (i := .ret) rfl, decodes_encode (i := .reti) rfl, fun cc => decodes_encode (i := .retCc cc) rfl,
    ⟨s.return16.tick 4, rfl, returned_return16 s 4, return16_frame s 4, rfl, rfl, rfl⟩,
    ⟨{ s with ime := true }.return16.tick 4, rfl, returned_return16 s 4, rfl, return16_frame _ 4, rfl, rfl, rfl⟩,
    fun cc => ?_⟩
  split
  case isTrue hc =>
    refine ⟨s.return16.tick 5, ?_, returned_return16 s 5, return16_frame s 5, rfl, rfl, rfl⟩
    rw [exec, execRetCc, if_pos (cond_eq_true hc)]
    rfl
  case isFalse hc => exact jumpsTo_of_not_taken (i := .retCc cc) rfl (cond_eq_false hc)

/-! ### A push undone -/

theorem stackPair_congr {s t : State} (hregs : ∀ r, t.reg8 r = s.reg8 r) (hf : t.f = s.f) (qq : StackPair) :
    t.stackPair qq = s.stackPair qq := by
  cases qq with
  | bc => exact congrArg₂ makeWord (hregs .b) (hregs .c)
  | de => exact congrArg₂ makeWord (hregs .d) (hregs .e)
  | hl => exact congrArg₂ makeWord (hregs .h) (hregs .l)
  | af => exact congrArg₂ makeWord (hregs .a) hf

/-- The low nibble that `POP AF` drops is 0 already. -/
theorem setStackPair_f_self {s u : State} (hu : u.f = s.f) (hs : s.f &&& 0x0F = 0) (qq : StackPair) :
    (u.setStackPair qq (s.stackPair qq)).f = s.f := by
  rw [State.setStackPair_f]
  split
  case isTrue hq =>
    subst hq
    exact (congrArg (· &&& 0xF0) (loByte_makeWord s.a s.f)).trans (and_f0_of_lowNibble hs)
  case isFalse => exact hu

/-- Settles O41: what POP takes from the stack is the pair pushed. -/
theorem popUndoesPush : Obligations.PopUndoesPush := by
  intro s t u qq hs ht hu
  obtain rfl := Host.Outcome.next.inj ht
  obtain rfl := Host.Outcome.next.inj hu
  have htop : (((s.advance 1).push16 (s.stackPair qq)).tick 4).top16 = s.stackPair qq :=
    State.top16_push16 (s := s.advance 1) hs.memory (s.stackPair qq)
  rw [Params.cost_params, mcycles, htop]
  have hregs := fun r => setStackPair_reg8_self (s := s)
    (u := ((((s.advance 1).push16 (s.stackPair qq)).tick 4).advance 1).drop16) (fun q => by simp) qq r
  have hf := setStackPair_f_self (s := s)
    (u := ((((s.advance 1).push16 (s.stackPair qq)).tick 4).advance 1).drop16) (by simp) hs.flagNibble qq
  exact ⟨stackPair_congr hregs hf qq, by simp, fun r _ => hregs r, hf⟩

/-- Settles O46: what RET takes from the stack is the word that CALL pushed. -/
theorem returnUndoesCall : Obligations.ReturnUndoesCall := by
  intro s t u nn hwf ht hu
  obtain rfl := Host.Outcome.next.inj ht
  obtain rfl := Host.Outcome.next.inj hu
  have hwf' : Memory.wf (s.advance 3).mem = true := hwf
  exact ⟨State.top16_push16 hwf' (s.advance 3).pc, by simp [State.return16, State.callTo],
    fun r _ => by simp [State.return16, State.callTo], by simp [State.return16, State.callTo]⟩

/-- Settles O47: what RETI takes from the stack is the PC that the entry pushed. -/
theorem retiUndoesInterruptEntry : Obligations.RetiUndoesInterruptEntry := by
  intro s t u v hinit hime hirq hwf ht hu
  obtain rfl := Host.Outcome.next.inj ((step_of_request hinit hirq hime).symm.trans ht)
  obtain rfl := Host.Outcome.next.inj hu
  have htop := State.top16_push16 (s := { s with irq := none, ime := false, halt := false, stop := false }) hwf s.pc
  rw [State.returnFromInterrupt_eq]
  refine ⟨htop, ?_, rfl, ?_, fun r _ => ?_, ?_⟩
  · simp [State.enterInterrupt]
  · simp [State.enterInterrupt]
  · cases r <;> simp [State.enterInterrupt, State.reg8]
  · simp [State.enterInterrupt]

end Sys2Proof.Machine
end

section
/-! PROOFS. DAA (46_singletons.md R251), and decimal arithmetic by an addition or subtraction and DAA (42_arithmetic.md
section 5). -/

namespace Sys2Proof.Machine

open Sys2Proof.Safety Sys2Proof.Claims

/-! ### The datapath -/

/-- The two corrections have no bit in common, so together they are their sum. -/
theorem daaCorrection_eq (low high : Bool) :
    (if low then 0x06 else 0) ||| (if high then 0x60 else 0) = 0x06 * bit low + 0x60 * bit high := by
  cases low <;> cases high <;> rfl

section
variable {a : Byte} {old : Flags}

theorem daa8_toNat_add (hn : old.n = false) :
    (daa8 a old).1.toNat =
      (a.toNat + (0x06 * bit (old.h || decide (a.toNat % 16 > 9)) + 0x60 * bit (old.c || decide (a.toNat > 0x99)))) % 256 := by
  simp only [daa8, hn, Bool.false_eq_true, if_false, daaCorrection_eq, lowNibble_eq, BitVec.toNat_ofNat]

theorem daa8_toNat_sub (hn : old.n = true) :
    ((daa8 a old).1.toNat : Int) = ((a.toNat : Int) - 6 * bit old.h - 0x60 * bit old.c) % 256 := by
  simp only [daa8, hn, if_true, daaCorrection_eq, BitVec.toNat_ofInt]
  omega

theorem daa8_flags_add (hn : old.n = false) :
    FlagsHold (daa8 a old).2 ((daa8 a old).1 = 0) False False (old.c = true ∨ a.toNat > 0x99) := by
  simp [FlagsHold, daa8, hn]

theorem daa8_flags_sub (hn : old.n = true) :
    FlagsHold (daa8 a old).2 ((daa8 a old).1 = 0) True False (old.c = true) := by
  simp [FlagsHold, daa8, hn]

end

/-- Settles O49: the two branches of the datapath, and in the first the four cases of its two tests. -/
theorem daaFollowsAlgorithm : Obligations.DaaFollowsAlgorithm := by
  intro s a
  have hlt : a < 256 := s.a.isLt
  refine ⟨decodes_encode (i := .daa) rfl, s.aluA (daa8 s.a s.flags) 1 1, rfl, aluA_frame s _ 1 1, rfl,
    aluA_advanced s _ 1 1, ?_⟩
  split
  case isTrue hn =>
    intro six sixty
    have hsix : (s.flags.h || decide (a % 16 > 9)) = true ↔ six := by simp [six]
    have hsixty : (s.flags.c || decide (a > 0x99)) = true ↔ sixty := by simp [sixty]
    have hvalue : (daa8 s.a s.flags).1.toNat = _ := daa8_toNat_add hn
    refine ⟨fun h h' => ?_, fun h h' => ?_, fun h h' => ?_, fun h h' => ?_, flagsAre_of_f rfl (daa8_flags_add hn)⟩
    · exact hvalue.trans (by rw [hsix.mpr h, hsixty.mpr h']; rfl)
    · exact hvalue.trans (by rw [hsix.mpr h, Bool.eq_false_iff.mpr (mt hsixty.mp h')]; rfl)
    · exact hvalue.trans (by rw [Bool.eq_false_iff.mpr (mt hsix.mp h), hsixty.mpr h']; rfl)
    · apply BitVec.eq_of_toNat_eq
      rw [Bool.eq_false_iff.mpr (mt hsix.mp h), Bool.eq_false_iff.mpr (mt hsixty.mp h')] at hvalue
      exact hvalue.trans (Nat.mod_eq_of_lt hlt)
  case isFalse hn =>
    have hn' : s.flags.n = true := by simpa using hn
    exact ⟨daa8_toNat_sub hn', flagsAre_of_f rfl (daa8_flags_sub hn')⟩

/-! ### Decimal arithmetic -/

/-- The decimal sum of two-digit operands from their binary sum `t`, corrected as R251 says: each case writes the result by
its two digits. -/
theorem decimal_add {ah al xh xl cin t u : Nat} (ha : ah ≤ 9 ∧ al ≤ 9) (hx : xh ≤ 9 ∧ xl ≤ 9) (hcin : cin ≤ 1)
    (ht : t = (16 * ah + al + (16 * xh + xl) + cin) % 256) {six sixty : Prop}
    (hsix : six ↔ al + xl + cin > 15 ∨ t % 16 > 9) (hsixty : sixty ↔ 16 * ah + al + (16 * xh + xl) + cin > 255 ∨ t > 0x99)
    (h66 : six → sixty → u = (t + 0x66) % 256) (h06 : six → ¬ sixty → u = (t + 0x06) % 256)
    (h60 : ¬ six → sixty → u = (t + 0x60) % 256) (h00 : ¬ six → ¬ sixty → u = t) :
    (u / 16 ≤ 9 ∧ u % 16 ≤ 9) ∧ 10 * (u / 16) + u % 16 = (10 * ah + al + (10 * xh + xl) + cin) % 100 ∧
      (sixty ↔ 10 * ah + al + (10 * xh + xl) + cin ≥ 100) := by
  have hsix' : six ↔ al + xl + cin ≥ 10 := by
    rw [hsix]
    omega
  by_cases h6 : six <;> by_cases h60' : sixty
  · have hu := h66 h6 h60'
    have hd := hsix'.mp h6
    have hs := hsixty.mp h60'
    have hu' : u = 16 * (ah + xh + 1 - 10) + (al + xl + cin - 10) := by omega
    subst hu'
    simp only [h60', true_iff]
    omega
  · have hu := h06 h6 h60'
    have hd := hsix'.mp h6
    have hs := mt hsixty.mpr h60'
    have hu' : u = 16 * (ah + xh + 1) + (al + xl + cin - 10) := by omega
    subst hu'
    simp only [h60', false_iff]
    omega
  · have hu := h60 h6 h60'
    have hd := mt hsix'.mpr h6
    have hs := hsixty.mp h60'
    have hu' : u = 16 * (ah + xh - 10) + (al + xl + cin) := by omega
    subst hu'
    simp only [h60', true_iff]
    omega
  · have hu := h00 h6 h60'
    have hd := mt hsix'.mpr h6
    have hs := mt hsixty.mpr h60'
    have hu' : u = 16 * (ah + xh) + (al + xl + cin) := by omega
    subst hu'
    simp only [h60', false_iff]
    omega

/-- The decimal difference of two-digit operands from their binary difference `t`, corrected as R251 says. -/
theorem decimal_sub {ah al xh xl cin t u : Nat} (ha : ah ≤ 9 ∧ al ≤ 9) (hx : xh ≤ 9 ∧ xl ≤ 9) (hcin : cin ≤ 1)
    (ht : (t : Int) = ((16 * ah + al : Nat) - (16 * xh + xl : Nat) - cin : Int) % 256) {half carry : Bool}
    (hhalf : half = true ↔ al < xl + cin) (hcarry : carry = true ↔ 16 * ah + al < 16 * xh + xl + cin)
    (hu : (u : Int) = ((t : Int) - 6 * bit half - 0x60 * bit carry) % 256) :
    (u / 16 ≤ 9 ∧ u % 16 ≤ 9) ∧ ((10 * (u / 16) + u % 16 : Nat) : Int) =
        ((10 * ah + al : Nat) - (10 * xh + xl : Nat) - cin : Int) % 100 ∧
      (carry = true ↔ 10 * ah + al < 10 * xh + xl + cin) := by
  cases half <;> cases carry <;> simp only [bit, if_true, Bool.false_eq_true, if_false, false_iff, true_iff] at hhalf hcarry hu ⊢
  · have hu' : u = 16 * (ah - xh) + (al - xl - cin) := by omega
    subst hu'
    omega
  · have hu' : u = 16 * (ah + 10 - xh) + (al - xl - cin) := by omega
    subst hu'
    omega
  · have hu' : u = 16 * (ah - xh - 1) + (al + 10 - xl - cin) := by omega
    subst hu'
    omega
  · have hu' : u = 16 * (ah + 10 - xh - 1) + (al + 10 - xl - cin) := by omega
    subst hu'
    omega

/-- The two digits of a byte. -/
theorem toNat_eq_digits (v : Byte) : v.toNat = 16 * (v.toNat / 16) + v.toNat % 16 := by omega

theorem adds_of_isAdd {i : Instr} {s : State} {x : Byte} {cin : Nat} (h : IsAdd i s x cin) :
    cin ≤ 1 ∧ ∃ len m, Adds i s x cin len m := by
  obtain ⟨hreg, ⟨-, hmem⟩, ⟨-, hmem'⟩, himm⟩ := addsWithAllFlags s
  rcases h with ⟨r, rfl, rfl, rfl⟩ | ⟨rfl, rfl, rfl⟩ | ⟨rfl, rfl⟩ | ⟨r, rfl, rfl, rfl⟩ | ⟨rfl, rfl, rfl⟩ | ⟨rfl, rfl⟩
  · exact ⟨by decide, _, _, (hreg r).2.1⟩
  · exact ⟨by decide, _, _, hmem⟩
  · exact ⟨by decide, _, _, (himm x).2.1⟩
  · exact ⟨bit_le_one _, _, _, (hreg r).2.2.2⟩
  · exact ⟨bit_le_one _, _, _, hmem'⟩
  · exact ⟨bit_le_one _, _, _, (himm x).2.2.2⟩

theorem subtracts_of_isSub {i : Instr} {s : State} {x : Byte} {cin : Nat} (h : IsSub i s x cin) :
    cin ≤ 1 ∧ ∃ len m, Subtracts i s x cin len m := by
  obtain ⟨hreg, ⟨-, hmem⟩, ⟨-, hmem'⟩, himm⟩ := subtractsWithAllFlags s
  rcases h with ⟨r, rfl, rfl, rfl⟩ | ⟨rfl, rfl, rfl⟩ | ⟨rfl, rfl⟩ | ⟨r, rfl, rfl, rfl⟩ | ⟨rfl, rfl, rfl⟩ | ⟨rfl, rfl⟩
  · exact ⟨by decide, _, _, (hreg r).2.1⟩
  · exact ⟨by decide, _, _, hmem⟩
  · exact ⟨by decide, _, _, (himm x).2.1⟩
  · exact ⟨bit_le_one _, _, _, (hreg r).2.2.2⟩
  · exact ⟨bit_le_one _, _, _, hmem'⟩
  · exact ⟨bit_le_one _, _, _, (himm x).2.2.2⟩

/-- Settles O50: N chooses the branch of DAA, and the digits add up or subtract by `decimal_add` and `decimal_sub`. -/
theorem daaMakesDecimalArithmetic : Obligations.DaaMakesDecimalArithmetic := by
  intro s t u i x cin hs hx ht hu
  obtain ⟨-, u', hu', -, -, -, hdaa⟩ := daaFollowsAlgorithm t
  cases hu'.symm.trans hu
  refine ⟨fun hi => ?_, fun hi => ?_⟩
  · obtain ⟨hcin, len, m, t', ht', ha, ⟨-, hn, hh, hc, -⟩, -⟩ := adds_of_isAdd hi
    cases ht'.symm.trans ht
    rw [if_pos (by simpa using hn)] at hdaa
    obtain ⟨h66, h06, h60, h00, -, -, -, hcarry, -⟩ := hdaa
    rw [toNat_eq_digits s.a, toNat_eq_digits x] at ha hc
    obtain ⟨hbcd, hsum, hiff⟩ := decimal_add hs hx hcin ha (or_congr_left hh) (or_congr_left hc) h66 h06 h60
      fun h h' => congrArg BitVec.toNat (h00 h h')
    exact ⟨hbcd, hsum, hcarry.trans hiff⟩
  · obtain ⟨hcin, len, m, t', ht', ha, ⟨-, hn, hh, hc, -⟩, -⟩ := subtracts_of_isSub hi
    cases ht'.symm.trans ht
    rw [if_neg (by simpa using hn)] at hdaa
    obtain ⟨hvalue, -, -, -, hcarry, -⟩ := hdaa
    rw [toNat_eq_digits s.a, toNat_eq_digits x] at ha hc
    obtain ⟨hbcd, hdiff, hiff⟩ := decimal_sub hs hx hcin ha hh hc hvalue
    exact ⟨hbcd, hdiff, hcarry.trans hiff⟩

end Sys2Proof.Machine
end
